-- ==== Sys2Proof/Config.lean ====
section
/-! DEFINITION. What is fixed at build time (00_scope.md R6, R7; 10_state.md R34): the parameters with the source's or the spec's defaults (the literals and the width of the millisecond registers), and the open parameters as constants without a body. -/

namespace Sys2Proof.Config

/-- The literals of R6 and `TW` of R7. Each is a parameter, an argument of the model; the default is the source's value (R6), for `TW` the spec's (D3). `PAYLOAD_BITS` is no field: the payload layout fixes it at 64 (R6, R70). -/
structure Params where
  /-- `T_US`: the wire time unit T in microseconds -/
  tUs : Nat := 413
  /-- `PRE_CYCLES`: preamble cycles of (HIGH T, LOW T) -/
  preCycles : Nat := 12
  /-- `SYNC_T`: the LOW gap after the preamble, in T -/
  syncT : Nat := 10
  /-- `TRAILER_BITS`: fixed-one trailer bits of a repetition -/
  trailerBits : Nat := 2
  /-- `GAP_T`: the LOW inter-packet gap, in T -/
  gapT : Nat := 39
  /-- `REPS`: repetitions of a burst -/
  reps : Nat := 4
  /-- `COOLDOWN_MS`: the elapsed cooldown that grants a heartbeat permit -/
  cooldownMs : Nat := 1000
  /-- `IDLE_MS`: the idle time that sends the block to sleep -/
  idleMs : Nat := 1000
  /-- `TW` (R7, D3): the width of the millisecond registers. Log 16. -/
  tw : Nat := 32
  deriving DecidableEq, Repr

/-- The defaults (R6, R7): the parameters with which the host's fixed names (exec, step, State.reset) run. Log 15. -/
def params : Params := {}

/-- `PAYLOAD_BITS` (R6), fixed by the layout of R70. -/
abbrev payloadBits : Nat := 64

/-- `BIT_T` (R8): every data or trailer bit lasts 3 T; not a parameter. -/
abbrev bitT : Nat := 3

/-- `DEVICE_ID` (R7, R102): any 28-bit value. Log 14. -/
opaque deviceId : BitVec 28

/-- `BUTTON_CODE` (R7, R101): any 4-bit value. Log 14. -/
opaque buttonCode : BitVec 4

/-- `PAYLOAD_UPPER` (R7, R73, D4): a function of the rolling byte, OPEN. Log 12. -/
opaque payloadUpper : BitVec 8 → BitVec 28

/-- `RESET_PERMIT` (R7, R36, D14): the permit after reset, OPEN. Log 13. -/
opaque resetPermit : Bool

/-- `CLK_HZ` (R7, D19), OPEN; no rule reads it. Log 22. -/
opaque clkHz : Nat

/-- `T_CYCLES` (R7, D19), OPEN; no rule reads it. Log 22. -/
opaque tCycles : Nat

/-- `MS_CYCLES` (R7, D19), OPEN; no rule reads it. Log 22. -/
opaque msCycles : Nat

/-- Free value: `tk_now` after the n-th RESET ("unspecified", R36, R210, I5), for each width. Log 9. -/
opaque freeTkNow : (w : Nat) → Nat → BitVec w

/-- Free value: `tk_btn` after the n-th RESET (R36, R210, I5). Log 9. -/
opaque freeTkBtn : Nat → Bool

/-- Free value: `tk_chg` after the n-th RESET (R36, R210, I5). Log 9. -/
opaque freeTkChg : Nat → Bool

end Sys2Proof.Config
end

