-- ==== Sys2Proof/Word.lean ====
section
/-! DEFINITION. The word types of the block (10_state.md R20). -/

namespace Sys2Proof

/-- A millisecond register: unsigned, arithmetic modulo 2^TW (R7, R10, R23). -/
abbrev Millis (p : Config.Params) := BitVec p.tw

/-- The 64-bit payload (R52, R70). -/
abbrev Payload := BitVec 64

/-- The level of a pin or of `tx_o`: true is HIGH, 1 (R11, R82). -/
abbrev Level := Bool

end Sys2Proof
end

