-- ==== Sys2Proof/Machine/Timing.lean ====
section
/-! DEFINITION. Lengths in T units (00_scope.md R8) and the real-time schedule (41_tx_timing.md R130, 70_reset_and_hazards.md R221), for any parameters. -/

namespace Sys2Proof.Machine

open Sys2Proof.Config (Params)

/-- `PRE_T` (R8): the preamble in T. -/
def preT (p : Params) : Nat := 2 * p.preCycles

/-- `DATA_T` (R8): payload and trailer bits in T. -/
def dataT (p : Params) : Nat := (Config.payloadBits + p.trailerBits) * Config.bitT

/-- `REP_T` (R8): one repetition in T. -/
def repT (p : Params) : Nat := preT p + p.syncT + dataT p + p.gapT

/-- `BURST_T` (R8): one burst in T. -/
def burstT (p : Params) : Nat := p.reps * repT p

/-- R28: "the least width holding `BURST_T - 1`"; 11 at the defaults. -/
def slotWidth (p : Params) : Nat := (burstT p - 1).log2 + 1

/-- `tx_slot` (R28): the index of the burst's current T unit. -/
abbrev Slot (p : Params) := BitVec (slotWidth p)

/-- A duration of `n` T units in microseconds (R11). -/
def micros (p : Params) (n : Nat) : Nat := n * p.tUs

/-- R130: slot `s` of a burst started at `t0` microseconds occupies the time from here to `slotStart p t0 (s + 1)`. -/
def slotStart (p : Params) (t0 s : Nat) : Nat := t0 + micros p s

/-- R130: `TX_END` of a burst started at `t0` microseconds. -/
def burstEnd (p : Params) (t0 : Nat) : Nat := t0 + micros p (burstT p)

/-- R221: the MS_TICK events in the `len` microseconds after an instant that lies `phase` microseconds (under 1000) after one of them. One at the very end of the time is counted, one at its very start (`phase` = 0) is not: the order of simultaneous events is open (I9, D23), so that is the model's choice (log 26). -/
def msTicksWithin (phase len : Nat) : Nat := (phase + len) / 1000

end Sys2Proof.Machine
end

