-- ==== Sys2Proof/Syntax.lean ====
section
/-! DEFINITION. The block's operations: one constructor for each row of spec/opcode_table.json, 11 events (30_encoding.md R90) and 6 wire symbols (R76). -/

namespace Sys2Proof

inductive Instr where
  /-- RESET, event code 0x1 (R210) -/
  | reset
  /-- MS_TICK, event code 0x2 (R150) -/
  | msTick
  /-- TICK, event code 0x3 (R152) -/
  | tick
  /-- TX_UNIT, event code 0x4 (R127) -/
  | txUnit
  /-- WAKE, event code 0x5 (R185) -/
  | wake
  /-- SET_INPUTS, event code 0x6, with the new levels of the two pins (R158, R92) -/
  | setInputs (buttonN chargerN : Level)
  /-- BUILD_PAYLOAD, internal code 0x8 (R100) -/
  | buildPayload
  /-- TX_START, internal code 0x9 (R125) -/
  | txStart
  /-- TX_END, internal code 0xA (R128) -/
  | txEnd
  /-- TICK_B, internal code 0xB (R155) -/
  | tickB
  /-- SLEEP_ENTER, internal code 0xC (R160) -/
  | sleepEnter
  /-- PRE_CYCLE, wire symbol `10` (R122) -/
  | preCycle
  /-- SYNC_GAP, wire symbol of ten LOW units (R123) -/
  | syncGap
  /-- BIT0, wire symbol `110` (R76) -/
  | bit0
  /-- BIT1, wire symbol `100` (R76) -/
  | bit1
  /-- TRAILER_BIT, wire symbol `100` after the payload bits (R74) -/
  | trailerBit
  /-- PKT_GAP, wire symbol of 39 LOW units (R124) -/
  | pktGap
  deriving DecidableEq, Repr

/-- R90: an external event is offered by the environment or a time base, an internal one occurs only as a named part of an external one. A wire symbol is no event (R76). -/
inductive Kind where
  | external | internal | symbol
  deriving DecidableEq, Repr

/-- The kind of each row (R90, R76). -/
def Instr.kind : Instr → Kind
  | .reset => .external
  | .msTick => .external
  | .tick => .external
  | .txUnit => .external
  | .wake => .external
  | .setInputs _ _ => .external
  | .buildPayload => .internal
  | .txStart => .internal
  | .txEnd => .internal
  | .tickB => .internal
  | .sleepEnter => .internal
  | .preCycle => .symbol
  | .syncGap => .symbol
  | .bit0 => .symbol
  | .bit1 => .symbol
  | .trailerBit => .symbol
  | .pktGap => .symbol

end Sys2Proof
end

