-- ==== Sys2Proof/WellFormed.lean ====
section
/-! DEFINITION. The checks: which parameters a build may have (00_scope.md R6, R8; log 23), and which operations a stimulus script may write (30_encoding.md R91, R93). The only operands of an instruction are two pin levels, every value of which is legal (R92), so a term of Instr needs no check of its own. -/

namespace Sys2Proof

/-- A burst sends at least one repetition (R13: a burst is "the `REPS` repetitions sent for one permit"). That REPS = 0 is refused is the model's choice (log 23). -/
def Config.Params.sendsRepetition (p : Config.Params) : Bool := decide (0 < p.reps)

/-- A repetition begins with a preamble, so a burst's first slot is HIGH (R125: "the first preamble HIGH begins with the start"). That PRE_CYCLES = 0 is refused is the model's choice (log 23). -/
def Config.Params.hasPreamble (p : Config.Params) : Bool := decide (0 < p.preCycles)

/-- R155: "since `IDLE_MS > 0`". The spec bounds neither threshold otherwise, and neither does the model (log 23). -/
def Config.Params.idlePositive (p : Config.Params) : Bool := decide (0 < p.idleMs)

/-- A build's parameters are legal. -/
def Config.Params.wf (p : Config.Params) : Bool := p.sendsRepetition && p.hasPreamble && p.idlePositive

/-- R93: a script holds external events only; "Internal events are never written in a script", and a wire symbol is no event. -/
def Instr.scriptable (i : Instr) : Bool := decide (i.kind = .external)

end Sys2Proof
end

