-- ==== Sys2Proof/Decode.lean ====
section
/-! DEFINITION. The decoders of event words (30_encoding.md R90 to R92) and of wire symbols (R76, R79), total and rejecting by name; after them the encoder. -/

namespace Sys2Proof

open Sys2Proof.Config (Params)

/-- Why a word has no meaning (R91). -/
inductive Reject where
  /-- code 0x0, 0x7, 0xD, 0xE or 0xF (I16) -/
  | reservedCode
  /-- a must-be-zero bit is set (I18) -/
  | mustBeZero
  /-- an internal code, 0x8 to 0xC, offered from outside (I17) -/
  | internalFromOutside
  /-- an external event's word where an internal one is to run (the model's own, log 5) -/
  | notInternal
  /-- levels that are no wire symbol (R83, the model's own, log 6) -/
  | notASymbol
  deriving DecidableEq, Repr

/-- What a step can take: an event word offered from outside, which is all the environment has to offer (R90, R92), or a `Part`. -/
inductive Offer where
  /-- an event word offered from outside (R92) -/
  | outside (w : BitVec 8)
  /-- the event word of an internal event, at its place within an external one (R90; log 5) -/
  | inside (w : BitVec 8)
  /-- a wire symbol, its T units' levels, the first first (R76) -/
  | wire (levels : List Level)
  deriving DecidableEq, Repr

/-- What stands for a row of the table that is no event of its own: an internal event, which "occurs only as a named part of an external one" (R90; log 5), or a wire symbol, which is the T units of several TX_UNITs (R76; log 6). The environment has no way to offer one. -/
inductive Part where
  /-- the event word of an internal event -/
  | inside (w : BitVec 8)
  /-- the levels of a wire symbol, the first T unit first -/
  | wire (levels : List Level)
  deriving DecidableEq, Repr

/-- A part as the decoder reads it. -/
def Part.offer : Part → Offer
  | .inside w => .inside w
  | .wire levels => .wire levels

/-- R92: all of `ev[3:0]` must be zero. -/
def plainEvent (ev : BitVec 8) (i : Instr) : Except Reject Instr :=
  if ev.extractLsb' 0 4 = 0 then .ok i else .error .mustBeZero

/-- R92: "`code = ev[7:4]`; look it up in rule R90; check the must-be-zero bits". -/
def decodeEvent (ev : BitVec 8) : Except Reject Instr :=
  match (ev.extractLsb' 4 4).toNat with
  | 0x1 => plainEvent ev .reset
  | 0x2 => plainEvent ev .msTick
  | 0x3 => plainEvent ev .tick
  | 0x4 => plainEvent ev .txUnit
  | 0x5 => plainEvent ev .wake
  | 0x6 =>
    if ev.extractLsb' 2 2 = 0 then .ok (.setInputs (ev.getLsbD 1) (ev.getLsbD 0))
    else .error .mustBeZero
  | 0x8 => plainEvent ev .buildPayload
  | 0x9 => plainEvent ev .txStart
  | 0xA => plainEvent ev .txEnd
  | 0xB => plainEvent ev .tickB
  | 0xC => plainEvent ev .sleepEnter
  | _ => .error .reservedCode

/-- R91: from outside an internal code has no meaning. -/
def decodeOutside (ev : BitVec 8) : Except Reject Instr :=
  match decodeEvent ev with
  | .ok i => if i.kind = .external then .ok i else .error .internalFromOutside
  | .error r => .error r

/-- An internal event by its own word (log 5). -/
def decodeInside (ev : BitVec 8) : Except Reject Instr :=
  match decodeEvent ev with
  | .ok i => if i.kind = .internal then .ok i else .error .notInternal
  | .error r => .error r

/-- R76: the levels of each wire symbol, the first T unit first; an event has none. -/
def symbolLevels (p : Params) : Instr → List Level
  | .preCycle => [true, false]
  | .syncGap => List.replicate p.syncT false
  | .bit0 => [true, true, false]
  | .bit1 => [true, false, false]
  | .trailerBit => [true, false, false]
  | .pktGap => List.replicate p.gapT false
  | .reset => []
  | .msTick => []
  | .tick => []
  | .txUnit => []
  | .wake => []
  | .setInputs _ _ => []
  | .buildPayload => []
  | .txStart => []
  | .txEnd => []
  | .tickB => []
  | .sleepEnter => []

/-- R76, R79: the wire symbol with these levels. `trailer` says whether the position lies behind the 64 payload bits, which is all that tells a TRAILER_BIT from a BIT1 (R74, R79; log 7), and, in a build with SYNC_T = GAP_T, a PKT_GAP from a SYNC_GAP. That levels which fit both gaps are a SYNC_GAP where `trailer` is false, outside a burst too, is the model's choice (log 7). -/
def decodeSymbol (p : Params) (trailer : Bool) (levels : List Level) : Except Reject Instr :=
  if levels = symbolLevels p .preCycle then .ok .preCycle
  else if levels = symbolLevels p .bit0 then .ok .bit0
  else if levels = symbolLevels p .bit1 then .ok (if trailer then .trailerBit else .bit1)
  else if trailer ∧ levels = symbolLevels p .pktGap then .ok .pktGap
  else if levels = symbolLevels p .syncGap then .ok .syncGap
  else if levels = symbolLevels p .pktGap then .ok .pktGap
  else .error .notASymbol

/-- The instruction of an offer; `trailer` as for `decodeSymbol`. -/
def decode (p : Params) (trailer : Bool) : Offer → Except Reject Instr
  | .outside w => decodeOutside w
  | .inside w => decodeInside w
  | .wire levels => decodeSymbol p trailer levels

/-! The encoder, from the same tables. -/

/-- R92: the event word of each event; a wire symbol has none. -/
def eventWord : Instr → Option (BitVec 8)
  | .reset => some 0x10
  | .msTick => some 0x20
  | .tick => some 0x30
  | .txUnit => some 0x40
  | .wake => some 0x50
  | .setInputs b c => some (0b011000#6 ++ BitVec.ofBool b ++ BitVec.ofBool c)
  | .buildPayload => some 0x80
  | .txStart => some 0x90
  | .txEnd => some 0xA0
  | .tickB => some 0xB0
  | .sleepEnter => some 0xC0
  | .preCycle => none
  | .syncGap => none
  | .bit0 => none
  | .bit1 => none
  | .trailerBit => none
  | .pktGap => none

/-- The offer that stands for an instruction. -/
def encode (p : Params) (i : Instr) : Offer :=
  match i.kind, eventWord i with
  | .external, some w => .outside w
  | .internal, some w => .inside w
  | _, _ => .wire (symbolLevels p i)

/-- A row's word as spec/opcode_table.json numbers it, `nbits` in whole bytes, made into an offer. An event word has 8 bits; a wire symbol's pattern is read as one number, its first T unit the most significant of its bits, as the table writes event words (log 7). -/
def tableOffer (nbits w : Nat) : Option Offer :=
  if nbits = 8 then
    if w = 0b10 then some (.wire (symbolLevels Config.params .preCycle))
    else if w = 0b110 then some (.wire (symbolLevels Config.params .bit0))
    else if w = 0b100 then some (.wire (symbolLevels Config.params .bit1))
    else if 256 ≤ w then none
    else if 0x8 ≤ w / 16 ∧ w / 16 ≤ 0xC then some (.inside (BitVec.ofNat 8 w))
    else some (.outside (BitVec.ofNat 8 w))
  else if nbits = 16 ∧ w = 0 then some (.wire (symbolLevels Config.params .syncGap))
  else if nbits = 40 ∧ w = 0 then some (.wire (symbolLevels Config.params .pktGap))
  else none

/-- The instruction the decoder reads from a table row's word. -/
def decodeTableWord (nbits w : Nat) : Option Instr :=
  match tableOffer nbits w with
  | some o => (decode Config.params false o).toOption
  | none => none

end Sys2Proof
end

