-- ==== Sys2Proof/Machine/State.lean ====
section
/-! DEFINITION. The state: the registers of 10_state.md R20 to R31, the input ports of R33 and the model's own fields; the reset state (R36); the reasons a step can stop. -/

namespace Sys2Proof.Machine

open Sys2Proof.Config (Params)

/-- `ctrl_state` (R21), with the reserved code as a value of its own. -/
inductive CtrlState where
  | awakeIdle | awakeActive | sleeping | reserved11
  deriving DecidableEq, Repr

/-- One event word that the environment offers (R92), with the value `rnd_i` has while it is taken (R33, R105). Logs 1 and 4. -/
structure Stimulus where
  word : BitVec 8
  rnd : BitVec 8
  deriving DecidableEq, Repr

/-- The state of a block built with parameters `p`. `State` alone is that of the block at the defaults (R6; log 15). -/
structure State (p : Params := Config.params) where
  /-- `ctrl_state` (R21) -/
  ctrlState : CtrlState
  /-- `tx_allowed` (R22): the transmit permit, the block's only flag -/
  txAllowed : Bool
  /-- `now_ms` (R23) -/
  nowMs : Millis p
  /-- `idle_ts` (R24) -/
  idleTs : Millis p
  /-- `cooldown_ts` (R25) -/
  cooldownTs : Millis p
  /-- `irq_btn_en` (R26) -/
  irqBtnEn : Bool
  /-- `irq_chg_en` (R26) -/
  irqChgEn : Bool
  /-- `tx_busy` (R27) -/
  txBusy : Bool
  /-- `tx_slot` (R28) -/
  txSlot : Slot p
  /-- `tx_payload` (R29) -/
  txPayload : Payload
  /-- `tk_now` (R30) -/
  tkNow : Millis p
  /-- `tk_btn` (R30) -/
  tkBtn : Bool
  /-- `tk_chg` (R30) -/
  tkChg : Bool
  /-- `adc_en` (R31) -/
  adcEn : Bool
  /-- `led_off` (R31) -/
  ledOff : Bool
  /-- the port `button_n` (R33): false is pressed -/
  buttonN : Level
  /-- the port `charger_n` (R33): false is connected -/
  chargerN : Level
  /-- the port `rnd_i` (R33) -/
  rndI : BitVec 8
  /-- the model's own: what BUILD_PAYLOAD last returned (R100; log 11) -/
  builtPayload : Payload
  /-- the model's own: what the environment will offer, first first (R93; log 1) -/
  script : List Stimulus
  /-- the model's own: how many RESETs have drawn free values (log 9) -/
  freeCount : Nat
  /-- the model's own: the internal event or wire symbol that is to run next, for the rows of the table that are no event of their own. An external event runs its internal ones itself, in its one step (R54, R58, R90), so between events this is none; only `withFetchWord` sets it (logs 5 and 6) -/
  part : Option Part
  deriving DecidableEq, Repr

/-- Why the machine stops with a fault. -/
inductive Fault where
  /-- R182 `Fault(ReservedState)`: raised by every event but RESET that finds `ctrl_state` = 0b11, or `tx_busy` = 1 with `tx_slot` >= BURST_T, before any write. Safe: no reachable state of the block has either (R42). -/
  | reservedState
  deriving DecidableEq, Repr

/-- Why a step is refused. -/
inductive Refusal where
  /-- An instruction that has no meaning in this model yet, by its mnemonic; no arm of exec answers it. Safe. -/
  | notModelled (mnemonic : String)
  /-- R91 `refuse(ReservedEvent)`: step, on an offer that decodes to nothing, with the decoder's reason. Safe: the run ends, the block has no such run (D18). -/
  | reservedEvent (why : Reject)
  /-- R12, I21 to I23: the event's enabling condition is false, so it has no step. Answered by a meaning; step then drops the offer and goes on (log 2). Safe. -/
  | notEnabled
  deriving DecidableEq, Repr

/-- R36, for any parameters, and the log's values where the spec gives none (logs 1, 5, 8, 9, 10, 11). -/
def State.resetAt (p : Params) : State p where
  ctrlState := .awakeIdle
  txAllowed := Config.resetPermit
  nowMs := 0
  idleTs := 0
  cooldownTs := 0
  irqBtnEn := false
  irqChgEn := false
  txBusy := false
  txSlot := 0
  txPayload := 0
  tkNow := 0
  tkBtn := false
  tkChg := false
  adcEn := true
  ledOff := false
  buttonN := true
  chargerN := true
  rndI := 0
  builtPayload := 0
  script := []
  freeCount := 0
  part := none

/-- The reset state of the block at the defaults. -/
def State.reset : State := State.resetAt Config.params

/-- What a meaning answers. -/
abbrev Outcome (p : Params := Config.params) := Host.Outcome (State p) Fault Refusal

end Sys2Proof.Machine
end

