-- ==== Sys2Proof/Machine/Operands.lean ====
section
/-! DEFINITION. What the events read: the inverted inputs (10_state.md R33), elapsed time (42_activity_controller.md R151), the payload's fields (30_encoding.md R70 to R73), the codes of `ctrl_state` (R21). -/

namespace Sys2Proof.Machine

open Sys2Proof.Config (Params)

variable {p : Params}

/-- R33: `btn = NOT button_n`. -/
def State.btn (s : State p) : Bool := !s.buttonN

/-- R33: `chg = NOT charger_n`. -/
def State.chg (s : State p) : Bool := !s.chargerN

/-- R151: `(n - ts) mod 2^TW`. -/
def elapsed {w : Nat} (ts n : BitVec w) : BitVec w := n - ts

/-- R151: the unsigned comparison of an elapsed time with a threshold. -/
def elapsedAtLeast {w : Nat} (ts n : BitVec w) (threshold : Nat) : Bool := decide (threshold ≤ (elapsed ts n).toNat)

/-- R71: the constant that places a 4-bit value at bits 3:0 and 35:32. -/
def buttonSpread : Payload := 0x0000000100000001

/-- R100: the payload of an upper part, a button code and a device identifier, by the rule's own expression. -/
def packPayload (upper : BitVec 28) (code : BitVec 4) (id : BitVec 28) : Payload :=
  (upper.setWidth 64 <<< 36) ||| (code.setWidth 64 * buttonSpread) ||| (id.setWidth 64 <<< 4)

/-- R100 `BUILD_PAYLOAD(rnd)`: the packing of the build-time constants with the rolling value. -/
def payloadOf (rnd : BitVec 8) : Payload :=
  packPayload (Config.payloadUpper rnd) Config.buttonCode Config.deviceId

/-- R52: byte `k` of a payload, byte 7 the highest. -/
def payloadByte (P : Payload) (k : Nat) : BitVec 8 := P.extractLsb' (8 * k) 8

/-- R21, D16: the 2-bit code of each controller state. -/
def CtrlState.code : CtrlState → BitVec 2
  | .awakeIdle => 0b00
  | .awakeActive => 0b01
  | .sleeping => 0b10
  | .reserved11 => 0b11

/-- R21, D16: the controller state of each 2-bit code. -/
def CtrlState.ofCode (c : BitVec 2) : CtrlState :=
  if c = 0b00 then .awakeIdle
  else if c = 0b01 then .awakeActive
  else if c = 0b10 then .sleeping
  else .reserved11

end Sys2Proof.Machine
end

