-- ==== Sys2Proof/Machine/Wire.lean ====
section
/-! DEFINITION. The wire: the level function (30_encoding.md R78), where each symbol begins (R75, R76), the run list (41_tx_timing.md R121) and the two decoders of R79, for any parameters. -/

namespace Sys2Proof.Machine

open Sys2Proof.Config (Params)

/-- R80: data bit `k` of a repetition: `P[63 - k]`, and behind the payload bits the trailer's constant 1 (R74). -/
def wireBit (P : Payload) (k : Nat) : Bool :=
  if k < Config.payloadBits then P.getLsbD (Config.payloadBits - 1 - k) else true

/-- R78, the part inside one data bit: T unit `j` of a bit of value `b`. -/
def bitLevel (b : Bool) (j : Nat) : Level :=
  if j = 0 then true
  else if j = 1 then !b
  else false

/-- R78 below `s mod REP_T`: the level in slot `r` of a repetition. -/
def repLevel (p : Params) (P : Payload) (r : Nat) : Level :=
  if r < preT p then decide (r % 2 = 0)
  else if r < preT p + p.syncT then false
  else if r - (preT p + p.syncT) < dataT p then
    bitLevel (wireBit P ((r - (preT p + p.syncT)) / Config.bitT)) ((r - (preT p + p.syncT)) % Config.bitT)
  else false

/-- R78 `L(P, s)`: the level of `tx_o` in slot `s` of a burst. -/
def level (p : Params) (P : Payload) (s : Nat) : Level := repLevel p P (s % repT p)

/-- The levels of one repetition, slot by slot (R78). -/
def repetitionLevels (p : Params) (P : Payload) : List Level := (List.range (repT p)).map (repLevel p P)

/-- The levels of a burst, slot by slot (R121). -/
def burstLevels (p : Params) (P : Payload) : List Level := (List.range (burstT p)).map (level p P)

/-- R75, R76: the wire symbol that begins at slot `r` of a repetition, where one does. -/
def symbolStart (p : Params) (P : Payload) (r : Nat) : Option Instr :=
  if r < preT p then (if r % 2 = 0 then some .preCycle else none)
  else if r = preT p ∧ 0 < p.syncT then some .syncGap
  else if r < preT p + p.syncT then none
  else if r - (preT p + p.syncT) < dataT p then
    if (r - (preT p + p.syncT)) % Config.bitT = 0 then
      if (r - (preT p + p.syncT)) / Config.bitT < Config.payloadBits then
        (if wireBit P ((r - (preT p + p.syncT)) / Config.bitT) then some .bit1 else some .bit0)
      else some .trailerBit
    else none
  else if r = preT p + p.syncT + dataT p ∧ 0 < p.gapT then some .pktGap
  else none

/-- Whether slot `r` of a repetition lies behind the payload bits, where levels `100` are a TRAILER_BIT (R74, R79). -/
def behindPayload (p : Params) (r : Nat) : Bool :=
  decide (preT p + p.syncT + Config.payloadBits * Config.bitT ≤ r)

/-- R121: one run of equal levels and its length in T. -/
abbrev LevelRun := Level × Nat

/-- R121 `hi(b) = 2 - b`. -/
def hiT (b : Bool) : Nat := if b then 1 else 2

/-- R121 `lo(b) = 1 + b`. -/
def loT (b : Bool) : Nat := if b then 2 else 1

/-- R121 `repetition(P)`, in its order; written for any parameters with at least one preamble cycle and one trailer bit, as R121's list has both: where one is 0, what it gives is the model's choice and not the burst's runs (log 25). -/
def repetitionRuns (p : Params) (P : Payload) : List LevelRun :=
  (List.replicate (p.preCycles - 1) [(true, 1), (false, 1)]).flatten
    ++ [(true, 1), (false, 1 + p.syncT)]
    ++ ((List.range Config.payloadBits).map fun k =>
        [(true, hiT (wireBit P k)), (false, loT (wireBit P k))]).flatten
    ++ (List.replicate (p.trailerBits - 1) [(true, 1), (false, 2)]).flatten
    ++ [(true, 1), (false, 2 + p.gapT)]

/-- R121 `burst(P)`. -/
def burstRuns (p : Params) (P : Payload) : List LevelRun :=
  (List.replicate p.reps (repetitionRuns p P)).flatten

/-- The levels a run list stands for. -/
def expandRuns (rs : List LevelRun) : List Level := (rs.map fun r => List.replicate r.2 r.1).flatten

/-- R79: `110` decodes to bit 0 and `100` to bit 1; no other group is a data bit. -/
def decodeGroup : Level → Level → Level → Option Bool
  | true, true, false => some false
  | true, false, false => some true
  | _, _, _ => none

/-- R79: data bit `k` of a repetition of which `lvl` gives the level slot by slot. -/
def decodeDataBit (p : Params) (lvl : Nat → Level) (k : Nat) : Option Bool :=
  decodeGroup (lvl (preT p + p.syncT + Config.bitT * k)) (lvl (preT p + p.syncT + Config.bitT * k + 1))
    (lvl (preT p + p.syncT + Config.bitT * k + 2))

/-- R79: all data bits of a repetition, payload first, trailer after it; none where a group is no data bit. -/
def decodeRepetition (p : Params) (lvl : Nat → Level) : Option (List Bool) :=
  (List.range (Config.payloadBits + p.trailerBits)).mapM (decodeDataBit p lvl)

/-- R80: the payload bits as they stand on the wire, `P[63]` first. -/
def payloadBitsMsbFirst (P : Payload) : List Bool := (List.range Config.payloadBits).map (wireBit P)

/-- R79: a level stream measured: its runs of equal levels, each with its length in T. -/
def measureRuns : List Level → List LevelRun
  | [] => []
  | l :: ls =>
    match measureRuns ls with
    | [] => [(l, 1)]
    | (l', n) :: rs => if l = l' then (l, n + 1) :: rs else (l, 1) :: (l', n) :: rs

/-- R79, from the level stream alone: the symbols a HIGH run and the LOW run after it stand for, by their lengths in T; `last` says that nothing follows the LOW run. A BIT1 and a first TRAILER_BIT are the same pair. Behind the last repetition the LOW run goes on while the block stays idle, so there it may be longer. R79 gives the pairs at the defaults; where other parameters make two of them coincide (SYNC_T = 0 or 1, GAP_T = 0, SYNC_T = GAP_T + 1), taking the first match in the order written is the model's choice (log 25). So is the reading where TRAILER_BITS = 0, for which R79 gives no pair: a last payload bit 1 with its gap, (1, 2 + GAP_T), is read as a TRAILER_BIT with the PKT_GAP, and a last payload bit 0 with its gap, (2, 1 + GAP_T), where GAP_T is not 0, as nothing (log 25). -/
def classifyRunPair (p : Params) (last : Bool) (hi lo : Nat) : Option (List Instr) :=
  if hi = 1 ∧ lo = 1 then some [.preCycle]
  else if hi = 1 ∧ lo = 1 + p.syncT then some [.preCycle, .syncGap]
  else if hi = 2 ∧ lo = 1 then some [.bit0]
  else if hi = 1 ∧ lo = 2 then some [.bit1]
  else if hi = 1 ∧ (lo = 2 + p.gapT ∨ (last ∧ 2 + p.gapT ≤ lo)) then some [.trailerBit, .pktGap]
  else none

/-- R79: a level stream's runs taken in pairs, each a HIGH run and the LOW run that follows it; none where they are not. -/
def runPairs : List LevelRun → Option (List (Nat × Nat))
  | [] => some []
  | (true, hi) :: (false, lo) :: rest => (runPairs rest).map ((hi, lo) :: ·)
  | _ => none

/-- R79: the symbols of a sequence of run pairs. -/
def decodePairs (p : Params) : List (Nat × Nat) → Option (List Instr)
  | [] => some []
  | (hi, lo) :: rest =>
    match classifyRunPair p rest.isEmpty hi lo, decodePairs p rest with
    | some is, some js => some (is ++ js)
    | _, _ => none

/-- R79: the symbols of a level stream, from its runs. -/
def decodeRuns (p : Params) (rs : List LevelRun) : Option (List Instr) := (runPairs rs).bind (decodePairs p)

/-- R79: the symbols of one burst, from the level stream alone; LOW before it and behind it is the idle line (R77, R82). -/
def decodeLevels (p : Params) (ls : List Level) : Option (List Instr) :=
  decodeRuns p (measureRuns (ls.dropWhile fun l => !l))

/-- R75, R80: the symbol of data bit `k` among the payload bits. -/
def bitSymbol (P : Payload) (k : Nat) : Instr := if wireBit P k then .bit1 else .bit0

/-- R75: the symbols of one repetition, in order. -/
def repetitionSymbols (p : Params) (P : Payload) : List Instr :=
  List.replicate p.preCycles .preCycle ++ [.syncGap]
    ++ (List.range Config.payloadBits).map (bitSymbol P)
    ++ List.replicate p.trailerBits .trailerBit ++ [.pktGap]

/-- R131: the HIGH levels in a list of levels. -/
def highCount (ls : List Level) : Nat := ls.count true

/-- R131: the rising edges of a list of levels that follows a LOW or HIGH level `before`. -/
def risingEdges : Level → List Level → Nat
  | _, [] => 0
  | before, l :: ls => (if !before && l then 1 else 0) + risingEdges l ls

/-- The number of bits of a payload that are 1 (R131 `popcount`). -/
def popcount (P : Payload) : Nat := (payloadBitsMsbFirst P).count true

end Sys2Proof.Machine
end

