-- ==== Sys2Proof/Machine/Flags.lean ====
section
/-! DEFINITION. The conditions the events test (42_activity_controller.md R152, R153, R155, R157, R161; 41_tx_timing.md R127; 60_exceptions.md R182, R183, R185) and the output ports (10_state.md R33). The block's one flag is the permit `tx_allowed` (R22). -/

namespace Sys2Proof.Machine

open Sys2Proof.Config (Params)

variable {p : Params}

/-- R21: "Awake" is AWAKE_IDLE or AWAKE_ACTIVE. -/
def State.awake (s : State p) : Bool := decide (s.ctrlState = .awakeIdle) || decide (s.ctrlState = .awakeActive)

/-- R182: a reserved `ctrl_state`, or a burst in progress with a reserved `tx_slot`. -/
def State.reservedState (s : State p) : Bool :=
  decide (s.ctrlState = .reserved11) || (s.txBusy && decide (burstT p ≤ s.txSlot.toNat))

/-- R153: the heartbeat condition, on the tick's snapshot (R152). -/
def State.heartbeatDue (s : State p) : Bool :=
  s.tkChg && elapsedAtLeast s.cooldownTs s.tkNow p.cooldownMs

/-- R155: the snapshot saw button or charger. -/
def State.inputActive (s : State p) : Bool := s.tkBtn || s.tkChg

/-- R157: the idle time has elapsed at the snapshot. -/
def State.idleDue (s : State p) : Bool := elapsedAtLeast s.idleTs s.tkNow p.idleMs

/-- R183: source `BTN` requests. -/
def State.btnRequests (s : State p) : Bool := s.irqBtnEn && !s.buttonN

/-- R183: source `CHG` requests. -/
def State.chgRequests (s : State p) : Bool := s.irqChgEn && !s.chargerN

/-! Where each event is enabled. -/

/-- R161. -/
def State.tickEnabled (s : State p) : Bool := s.awake && !s.txBusy

/-- R127: "enabled iff tx_busy = 1". -/
def State.txUnitEnabled (s : State p) : Bool := s.txBusy

/-- R185. -/
def State.wakeEnabled (s : State p) : Bool :=
  decide (s.ctrlState = .sleeping) && (s.btnRequests || s.chgRequests)

/-- The place of TX_START: inside TICK phase A, so awake and not busy, with `tx_allowed` = 1 (R125, R154). Log 5. -/
def State.txStartPlace (s : State p) : Bool := s.awake && !s.txBusy && s.txAllowed

/-- Slot `BURST_T - 1` is the current one (R127, R128). -/
def State.atLastSlot (s : State p) : Bool := decide (s.txSlot.toNat + 1 = burstT p)

/-- The place of TX_END: inside the TX_UNIT that closes slot `BURST_T - 1` (R128). Log 5. -/
def State.txEndPlace (s : State p) : Bool := s.txBusy && s.atLastSlot

/-- The place of TICK_B: at the end of a TICK without a burst, or in TX_END after it has cleared `tx_busy` and the permit (R152, R155, R128). Log 5. -/
def State.tickBPlace (s : State p) : Bool := s.awake && !s.txBusy && !s.txAllowed

/-- The place of SLEEP_ENTER: inside TICK_B, with no input seen and the idle time elapsed (R155, R157, R160). Log 5. -/
def State.sleepEnterPlace (s : State p) : Bool := !s.inputActive && s.idleDue && s.tickBPlace

/-- The slot within the repetition, `s mod REP_T` (R78). -/
def State.repSlot (s : State p) : Nat := s.txSlot.toNat % repT p

/-- The generator stands at the first T unit of the wire symbol `i` (R75, R76). Log 6. -/
def State.atSymbol (s : State p) (i : Instr) : Bool :=
  s.txBusy && decide (symbolStart p s.txPayload s.repSlot = some i)

/-- The generator stands behind the payload bits of a repetition (R79). Log 7. -/
def State.inTrailer (s : State p) : Bool := s.txBusy && behindPayload p s.repSlot

/-- R12, R90: whether each operation can occur at this state: an external event where it is enabled, an internal one at its place, a wire symbol where the generator stands at its start. -/
def State.enabled (s : State p) : Instr → Bool
  | .reset => true
  | .msTick => true
  | .tick => s.tickEnabled
  | .txUnit => s.txUnitEnabled
  | .wake => s.wakeEnabled
  | .setInputs _ _ => true
  | .buildPayload => true
  | .txStart => s.txStartPlace
  | .txEnd => s.txEndPlace
  | .tickB => s.tickBPlace
  | .sleepEnter => s.sleepEnterPlace
  | .preCycle => s.atSymbol .preCycle
  | .syncGap => s.atSymbol .syncGap
  | .bit0 => s.atSymbol .bit0
  | .bit1 => s.atSymbol .bit1
  | .trailerBit => s.atSymbol .trailerBit
  | .pktGap => s.atSymbol .pktGap

/-! The ports of R33 that are functions of the state. -/

/-- R126: `tx_o = (tx_busy = 1) ? L(tx_payload, tx_slot) : 0`. -/
def State.txO (s : State p) : Level := s.txBusy && level p s.txPayload s.txSlot.toNat

/-- R33: `sleep_o`. -/
def State.sleepO (s : State p) : Bool := decide (s.ctrlState = .sleeping)

/-- R33: `adc_en_o`. -/
def State.adcEnO (s : State p) : Bool := s.adcEn

/-- R33: `led_off_o`. -/
def State.ledOffO (s : State p) : Bool := s.ledOff

/-- R33: `busy_o`. -/
def State.busyO (s : State p) : Bool := s.txBusy

/-- The event offered from outside next, where there is one (R90). -/
def State.offered (s : State p) : Option Instr :=
  match s.script with
  | st :: _ => (decodeOutside st.word).toOption
  | [] => none

/-- R33, R161: `tick_i` asks for a tick exactly when TICK is offered. Log 1. -/
def State.tickI (s : State p) : Bool := decide (s.offered = some .tick)

/-- R33, R210: `rst_n` is 0 exactly when RESET is offered. Log 1. -/
def State.rstN (s : State p) : Level := !decide (s.offered = some .reset)

end Sys2Proof.Machine
end

