-- ==== Sys2Proof/Machine/Ops.lean ====
section
/-! DEFINITION. The named operations on the state, each written once: register updates, the events' effects (as they also occur inside one another), taking the wake interrupt, and the answer of a meaning. -/

namespace Sys2Proof.Machine

open Sys2Proof.Config (Params)

variable {p : Params}

/-! Register updates. -/

/-- Writes `ctrl_state`. -/
def State.setCtrl (s : State p) (c : CtrlState) : State p := { s with ctrlState := c }

/-- Writes the permit. -/
def State.setPermit (s : State p) (b : Bool) : State p := { s with txAllowed := b }

/-- Writes `now_ms`. -/
def State.setNow (s : State p) (n : Millis p) : State p := { s with nowMs := n }

/-- Writes `idle_ts`. -/
def State.setIdle (s : State p) (n : Millis p) : State p := { s with idleTs := n }

/-- Writes `cooldown_ts`. -/
def State.setCooldown (s : State p) (n : Millis p) : State p := { s with cooldownTs := n }

/-- Attaches or detaches both wake interrupts (R26, R184). -/
def State.setIrqs (s : State p) (b : Bool) : State p := { s with irqBtnEn := b, irqChgEn := b }

/-- Writes the drivers of `adc_en_o` and `led_off_o` (R31). -/
def State.setPower (s : State p) (adc led : Bool) : State p := { s with adcEn := adc, ledOff := led }

/-- Writes `tx_busy`. -/
def State.setBusy (s : State p) (b : Bool) : State p := { s with txBusy := b }

/-- Writes `tx_slot`. -/
def State.setSlot (s : State p) (n : Slot p) : State p := { s with txSlot := n }

/-- Writes `tx_payload`. -/
def State.setPayload (s : State p) (P : Payload) : State p := { s with txPayload := P }

/-- Writes the value BUILD_PAYLOAD returns (log 11). -/
def State.setBuilt (s : State p) (P : Payload) : State p := { s with builtPayload := P }

/-- Writes the tick snapshot (R30, R152). -/
def State.setSnapshot (s : State p) (n : Millis p) (b c : Bool) : State p := { s with tkNow := n, tkBtn := b, tkChg := c }

/-- Drives the two input pins (R158). -/
def State.setPins (s : State p) (b c : Level) : State p := { s with buttonN := b, chargerN := c }

/-- Names the part that is to run next, or none (logs 5 and 6). -/
def State.setPart (s : State p) (q : Option Part) : State p := { s with part := q }

/-- Takes a stimulus off: what is left of the script, and the value now on `rnd_i` (logs 1 and 4). -/
def State.feed (s : State p) (rest : List Stimulus) (rnd : BitVec 8) : State p := { s with script := rest, rndI := rnd }

/-! Effects. -/

/-- R150. -/
def State.msTick (s : State p) : State p := s.setNow (s.nowMs + 1)

/-- R100: the payload of the value now on `rnd_i` (R105); no register of the block is written. -/
def State.buildPayload (s : State p) : State p := s.setBuilt (payloadOf s.rndI)

/-- R125. -/
def State.txStart (s : State p) : State p :=
  ((s.buildPayload.setPayload s.buildPayload.builtPayload).setSlot 0).setBusy true

/-- R160: one atomic step (D21). -/
def State.sleepEnter (s : State p) : State p := ((s.setPower false true).setIrqs true).setCtrl .sleeping

/-- R155: idle refresh, sleep test, awake sub-state. -/
def State.tickB (s : State p) : State p :=
  if s.inputActive then (s.setIdle s.tkNow).setCtrl .awakeActive
  else if s.idleDue then s.sleepEnter
  else s.setCtrl .awakeIdle

/-- R128: the burst ends, the permit is cleared, then the suspended tick finishes. -/
def State.txEnd (s : State p) : State p := ((s.setBusy false).setPermit false).tickB

/-- R127: the next slot, or the end of the burst. -/
def State.txUnit (s : State p) : State p :=
  if s.txSlot.toNat + 1 < burstT p then s.setSlot (s.txSlot + 1) else s.txEnd

/-- `n` TX_UNITs one after another, for a wire symbol of `n` T units (R76; log 6). -/
def State.txUnits : Nat → State p → State p
  | 0, s => s
  | n + 1, s => State.txUnits n s.txUnit

/-- R152: the snapshot of time and inputs at the tick's start. -/
def State.takeSnapshot (s : State p) : State p := s.setSnapshot s.nowMs s.btn s.chg

/-- R153: the charger heartbeat, on the snapshot. -/
def State.heartbeat (s : State p) : State p :=
  if s.heartbeatDue then (s.setPermit true).setCooldown s.tkNow else s

/-- R154 and the end of R152: a permit starts a burst, without one phase B follows in the same step. -/
def State.transmitOrFinish (s : State p) : State p := if s.txAllowed then s.txStart else s.tickB

/-- R152: phase A, and phase B where no burst starts. -/
def State.tick (s : State p) : State p := s.takeSnapshot.heartbeat.transmitOrFinish

/-- TAKING THE WAKE INTERRUPT (R185, R187): it saves nothing, has no vector and changes no mode; it is also its own return (R188). -/
def State.takeWake (s : State p) : State p :=
  ((((((s.setPower true false).setIdle s.nowMs).setCooldown s.nowMs).setPermit true).setIrqs false)).setCtrl .awakeIdle

/-- R210: the reset table of R36; the tick snapshot "left unspecified" takes free values (log 9), the inputs and the script stay, and so does the model's own `builtPayload`; nothing is left under way (log 5). -/
def State.doReset (s : State p) : State p :=
  { State.resetAt p with
    tkNow := Config.freeTkNow p.tw s.freeCount
    tkBtn := Config.freeTkBtn s.freeCount
    tkChg := Config.freeTkChg s.freeCount
    buttonN := s.buttonN
    chargerN := s.chargerN
    rndI := s.rndI
    builtPayload := s.builtPayload
    script := s.script
    freeCount := s.freeCount + 1 }

/-- The T units of the wire symbol `i`, sent one after another (R76; log 6). -/
def State.sendUnits (s : State p) (i : Instr) : State p := State.txUnits (symbolLevels p i).length s

/-- The effect of each operation where it occurs. -/
def State.effect (s : State p) : Instr → State p
  | .reset => s.doReset
  | .msTick => s.msTick
  | .tick => s.tick
  | .txUnit => s.txUnit
  | .wake => s.takeWake
  | .setInputs b c => s.setPins b c
  | .buildPayload => s.buildPayload
  | .txStart => s.txStart
  | .txEnd => s.txEnd
  | .tickB => s.tickB
  | .sleepEnter => s.sleepEnter
  | .preCycle => s.sendUnits .preCycle
  | .syncGap => s.sendUnits .syncGap
  | .bit0 => s.sendUnits .bit0
  | .bit1 => s.sendUnits .bit1
  | .trailerBit => s.sendUnits .trailerBit
  | .pktGap => s.sendUnits .pktGap

/-! The answer of a meaning, and the step's handling of offers. -/

/-- R12, R182: a reserved state faults before any write, whatever is enabled (log 19); an event that is not enabled has no step; otherwise the next state. -/
def guarded (s : State p) (enabled : Bool) (t : State p) : Outcome p :=
  if s.reservedState then .fault .reservedState
  else if enabled then .next t
  else .refused .notEnabled

/-- The meaning shared by the wire symbols: at the symbol's first T unit the generator sends all of it (R76, R127; log 6). -/
def sendSymbol (i : Instr) (s : State p) : Outcome p :=
  guarded s (s.atSymbol i) (s.sendUnits i)

/-- What the machine takes next, and the state that has taken it: a part that is to run next, where there is one (logs 5 and 6), else the event word the environment offers, one a step (R58; log 1). -/
def State.fetch (s : State p) : Option (Offer × State p) :=
  match s.part, s.script with
  | some q, _ => some (q.offer, s.setPart none)
  | none, [] => none
  | none, st :: rest => some (.outside st.word, s.feed rest st.rnd)

/-- R12, R161: a request whose event is not enabled "is not an event and is not remembered": the offer is gone and the block stands as it stood (log 2). -/
def dropIfNotEnabled (s : State p) : Outcome p → Outcome p
  | .refused .notEnabled => .next s
  | o => o

/-- One operation of a block with any parameters: RESET always occurs (R182, R210), every other one is guarded. exec is this at the defaults, meaning by meaning. -/
def State.perform (s : State p) (i : Instr) : Outcome p :=
  if i = .reset then .next s.doReset else guarded s (s.enabled i) (s.effect i)

/-- One step, with the operation run by `run`: with nothing offered the block waits (log 3); an offer that decodes to nothing is refused (R91; log 20); an event that is not enabled does not occur (R12; log 2). -/
def stepBy (run : Instr → State p → Outcome p) (s : State p) : Outcome p :=
  match s.fetch with
  | none => .next s
  | some (o, t) =>
    match decode p t.inTrailer o with
    | .ok i => dropIfNotEnabled t (run i t)
    | .error r => .refused (.reservedEvent r)

/-- A step of a block with any parameters; `step` is this at the defaults. -/
def State.advance (s : State p) : Outcome p := stepBy (fun i t => t.perform i) s

/-- Puts an event word in front of the script, with `rnd_i` as it is, as the next thing the machine takes (log 1). -/
def State.ask (s : State p) (w : BitVec 8) : State p :=
  { s.setPart none with script := ⟨w, s.rndI⟩ :: s.script }

/-- A table row's word as the next thing the machine takes: offered by the environment, or, for an internal event and a wire symbol, as the part to run next (logs 1, 5 and 6). A word of no row is taken as no levels, which are refused. -/
def State.offerWord (s : State) (nbits w : Nat) : State :=
  match tableOffer nbits w with
  | some (.outside ev) => s.ask ev
  | some (.inside ev) => s.setPart (some (.inside ev))
  | some (.wire levels) => s.setPart (some (.wire levels))
  | none => s.setPart (some (.wire []))

end Sys2Proof.Machine
end

