-- ==== Sys2Proof/Machine/Activity.lean ====
section
/-! DEFINITION. The activity controller's operations (42_activity_controller.md). -/

namespace Sys2Proof.Machine

open Sys2Proof.Config (Params)

variable {p : Params}

/-- R150 MS_TICK: enabled in every state, SLEEPING included (R192). -/
def execMsTick (s : State p) : Outcome p := guarded s true s.msTick

/-- R152 TICK. -/
def execTick (s : State p) : Outcome p := guarded s s.tickEnabled s.tick

/-- R155 TICK_B. -/
def execTickB (s : State p) : Outcome p := guarded s s.tickBPlace s.tickB

/-- R158 SET_INPUTS: enabled in every state. -/
def execSetInputs (buttonN chargerN : Level) (s : State p) : Outcome p := guarded s true (s.setPins buttonN chargerN)

/-- R160 SLEEP_ENTER. -/
def execSleepEnter (s : State p) : Outcome p := guarded s s.sleepEnterPlace s.sleepEnter

end Sys2Proof.Machine
end

