-- ==== Sys2Proof/Machine/PayloadEncoder.lean ====
section
/-! DEFINITION. The payload encoder's operation (40_payload_encoder.md). -/

namespace Sys2Proof.Machine

open Sys2Proof.Config (Params)

variable {p : Params}

/-- R100 BUILD_PAYLOAD: always possible ("this routine cannot fail once entered"); its value goes to the model's own `builtPayload`. -/
def execBuildPayload (s : State p) : Outcome p := guarded s true s.buildPayload

end Sys2Proof.Machine
end

