-- ==== Sys2Proof/Machine/TxTiming.lean ====
section
/-! DEFINITION. The TX timing generator's operations (41_tx_timing.md). -/

namespace Sys2Proof.Machine

open Sys2Proof.Config (Params)

variable {p : Params}

/-- R125 TX_START. -/
def execTxStart (s : State p) : Outcome p := guarded s s.txStartPlace s.txStart

/-- R127 TX_UNIT. -/
def execTxUnit (s : State p) : Outcome p := guarded s s.txUnitEnabled s.txUnit

/-- R128 TX_END. -/
def execTxEnd (s : State p) : Outcome p := guarded s s.txEndPlace s.txEnd

end Sys2Proof.Machine
end

