-- ==== Sys2Proof/Machine/WakeReset.lean ====
section
/-! DEFINITION. The wake interrupt (60_exceptions.md R185) and reset (70_reset_and_hazards.md R210). -/

namespace Sys2Proof.Machine

open Sys2Proof.Config (Params)

variable {p : Params}

/-- R185 WAKE. -/
def execWake (s : State p) : Outcome p := guarded s s.wakeEnabled s.takeWake

/-- R210 RESET: enabled in every state, a reserved one included (R182). -/
def execReset (s : State p) : Outcome p := .next s.doReset

end Sys2Proof.Machine
end

