-- ==== Sys2Proof/Machine/WireSymbols.lean ====
section
/-! DEFINITION. The wire symbols as operations of the generator (30_encoding.md R76): each is sent where the burst stands at its first T unit. No step from RESET runs one: there a burst goes on by one TX_UNIT a step (R58). Log 6. -/

namespace Sys2Proof.Machine

open Sys2Proof.Config (Params)

variable {p : Params}

/-- R122, R76 PRE_CYCLE. -/
def execPreCycle (s : State p) : Outcome p := sendSymbol .preCycle s

/-- R123, R76 SYNC_GAP. -/
def execSyncGap (s : State p) : Outcome p := sendSymbol .syncGap s

/-- R76, R124 BIT0. -/
def execBit0 (s : State p) : Outcome p := sendSymbol .bit0 s

/-- R76, R124 BIT1. -/
def execBit1 (s : State p) : Outcome p := sendSymbol .bit1 s

/-- R74, R76 TRAILER_BIT. -/
def execTrailerBit (s : State p) : Outcome p := sendSymbol .trailerBit s

/-- R124, R76 PKT_GAP; behind the last repetition its last T unit ends the burst (R128). -/
def execPktGap (s : State p) : Outcome p := sendSymbol .pktGap s

end Sys2Proof.Machine
end

