-- ==== Sys2Proof/Machine/Dispatch.lean ====
section
/-! DEFINITION. The meaning of each row of spec/opcode_table.json. -/

namespace Sys2Proof.Machine

def exec (i : Instr) (s : State) : Host.Outcome State Fault Refusal :=
  match i with
  | .reset => Sys2Proof.Machine.execReset s
  | .msTick => Sys2Proof.Machine.execMsTick s
  | .tick => Sys2Proof.Machine.execTick s
  | .txUnit => Sys2Proof.Machine.execTxUnit s
  | .wake => Sys2Proof.Machine.execWake s
  | .setInputs buttonN chargerN => Sys2Proof.Machine.execSetInputs buttonN chargerN s
  | .buildPayload => Sys2Proof.Machine.execBuildPayload s
  | .txStart => Sys2Proof.Machine.execTxStart s
  | .txEnd => Sys2Proof.Machine.execTxEnd s
  | .tickB => Sys2Proof.Machine.execTickB s
  | .sleepEnter => Sys2Proof.Machine.execSleepEnter s
  | .preCycle => Sys2Proof.Machine.execPreCycle s
  | .syncGap => Sys2Proof.Machine.execSyncGap s
  | .bit0 => Sys2Proof.Machine.execBit0 s
  | .bit1 => Sys2Proof.Machine.execBit1 s
  | .trailerBit => Sys2Proof.Machine.execTrailerBit s
  | .pktGap => Sys2Proof.Machine.execPktGap s

end Sys2Proof.Machine
end

