-- ==== Sys2Proof/Machine/Step.lean ====
section
/-! DEFINITION. One step: take the next stimulus, decode it, run it (30_encoding.md R90 to R92; 20_memory.md R58: one event a step). What is no event of its own, an internal event (R90, R91) or a wire symbol (R76), is never taken from the environment (logs 5 and 6). -/

namespace Sys2Proof.Machine

/-- R12, R58, R91: `stepBy` with exec, at the defaults. -/
def step (s : State) : Host.Outcome State Fault Refusal := stepBy exec s

/-- A table row's word as the next thing the machine takes; an internal event's or a wire symbol's as the part to run next (logs 1, 5 and 6). -/
def State.withFetchWord (s : State) (nbits w : Nat) : State := s.offerWord nbits w

end Sys2Proof.Machine
end

