-- ==== Sys2Proof/Machine/Script.lean ====
section
/-! DEFINITION. Stimulus scripts (30_encoding.md R93, R94): the spellings of the external events, the pseudo-events, and a script line's reading. -/

namespace Sys2Proof.Machine

/-- R93: an operand `name=<0|1>`. -/
def pinDigit (l : Level) : List Char := if l then ['1'] else ['0']

/-- R93: the spelling of each external event; an internal event or a wire symbol has none. -/
def spelling : Instr → Option (List Char)
  | .reset => some "RESET".toList
  | .msTick => some "MS_TICK".toList
  | .tick => some "TICK".toList
  | .txUnit => some "TX_UNIT".toList
  | .wake => some "WAKE".toList
  | .setInputs b c =>
    some ("SET_INPUTS button_n=".toList ++ pinDigit b ++ " charger_n=".toList ++ pinDigit c)
  | .buildPayload => none
  | .txStart => none
  | .txEnd => none
  | .tickB => none
  | .sleepEnter => none
  | .preCycle => none
  | .syncGap => none
  | .bit0 => none
  | .bit1 => none
  | .trailerBit => none
  | .pktGap => none

/-- Every event a script can name. -/
def scriptEvents : List Instr :=
  [.reset, .msTick, .tick, .txUnit, .wake, .setInputs false false, .setInputs false true,
    .setInputs true false, .setInputs true true]

/-- R93: what stands before a `;`, less the blanks before it (log 24). -/
def stripComment (line : List Char) : List Char :=
  ((line.takeWhile (· ≠ ';')).reverse.dropWhile (· = ' ')).reverse

/-- R93: the event a script line names. -/
def parseLine (line : List Char) : Option Instr :=
  scriptEvents.find? fun i => decide (spelling i = some (stripComment line))

/-- R94 `WAIT_MS n`. -/
def waitMs (n : Nat) : List Instr := List.replicate n .msTick

/-- R94 `TICK_AT t`, from the time `now`; written only where `now ≤ t`. -/
def tickAt (now t : Nat) : List Instr := waitMs (t - now) ++ [.tick]

/-- R94 `RUN_BURST`: the TX_UNITs of a burst in any interleaving with as many MS_TICKs as R221 lets fall into it. -/
def isRunBurst (es : List Instr) : Bool :=
  es.all (fun i => decide (i = .txUnit) || decide (i = .msTick))
    && decide (es.count .txUnit = burstT Config.params)
    && (decide (es.count .msTick = 447) || decide (es.count .msTick = 448))

/-- R94 `SLEEP_WAKE_BTN`. -/
def sleepWakeBtn : List Instr := [.setInputs false true, .wake]

end Sys2Proof.Machine
end

