-- ==== Sys2Proof/Safety.lean ====
section
/-! DEFINITION. The terms claims use: the invariants of 10_state.md R42 and the permit's, sequences of events, which events take part in a burst, runs from reset. -/

namespace Sys2Proof.Machine

open Sys2Proof.Config (Params)

variable {p : Params}

/-- R42, item by item, with what R125 and R160 say of the permit. -/
structure State.BlockInv (s : State p) : Prop where
  /-- item 1, first half -/
  btnArmed : s.irqBtnEn = decide (s.ctrlState = .sleeping)
  /-- item 1, second half -/
  chgArmed : s.irqChgEn = decide (s.ctrlState = .sleeping)
  /-- item 2 -/
  busyAwake : s.txBusy = true → s.awake = true ∧ s.txSlot.toNat < burstT p
  /-- item 3, with R126 for `tx_o` -/
  asleepQuiet : s.ctrlState = .sleeping → s.txBusy = false ∧ s.txO = false ∧ s.adcEn = false ∧ s.ledOff = true
  /-- item 4 -/
  awakePowered : s.awake = true → s.adcEn = true ∧ s.ledOff = false
  /-- item 5 -/
  notReserved : s.ctrlState ≠ .reserved11
  /-- R125: the permit stays 1 until TX_END -/
  busyPermit : s.txBusy = true → s.txAllowed = true
  /-- R160: `tx_allowed = 0` at every SLEEP_ENTER, and R196: it is kept in sleep -/
  asleepNoPermit : s.ctrlState = .sleeping → s.txAllowed = false

/-- R182: the state holds no reserved code: `ctrl_state` is not 0b11, and a burst in progress stands at a slot below `BURST_T`. -/
abbrev State.Legal (s : State p) : Prop :=
  s.ctrlState ≠ .reserved11 ∧ (s.txBusy = true → s.txSlot.toNat < burstT p)

/-- R21: awake, spelled out. -/
abbrev State.IsAwake (s : State p) : Prop := s.ctrlState = .awakeIdle ∨ s.ctrlState = .awakeActive

/-- R153: the charger is connected and the cooldown has elapsed now, at the threshold or above. -/
abbrev State.HeartbeatHolds (s : State p) : Prop :=
  s.chargerN = false ∧ p.cooldownMs ≤ (s.nowMs - s.cooldownTs).toNat

/-- R183: an armed source whose pin is LOW. -/
abbrev State.WakeRequested (s : State p) : Prop :=
  (s.irqBtnEn = true ∧ s.buttonN = false) ∨ (s.irqChgEn = true ∧ s.chargerN = false)

/-- Executes events one after another, stopping at the first that does not answer a next state. -/
def execAll : List Instr → State → Outcome
  | [], s => .next s
  | i :: is, s =>
    match exec i s with
    | .next t => execAll is t
    | .fault r => .fault r
    | .refused r => .refused r

/-- The events that can fall inside a burst besides RESET: the two time bases' and the pins' (R186, R60). -/
def duringBurst : Instr → Bool
  | .txUnit => true
  | .msTick => true
  | .setInputs _ _ => true
  | .reset => false
  | .tick => false
  | .wake => false
  | .buildPayload => false
  | .txStart => false
  | .txEnd => false
  | .tickB => false
  | .sleepEnter => false
  | .preCycle => false
  | .syncGap => false
  | .bit0 => false
  | .bit1 => false
  | .trailerBit => false
  | .pktGap => false

/-- The event, at this state, rewrites `cooldown_ts` (R25): RESET, WAKE, or a TICK that grants a heartbeat. -/
def restartsCooldown (i : Instr) (s : State) : Bool :=
  decide (i = .reset) || decide (i = .wake) || (decide (i = .tick) && decide s.HeartbeatHolds)

/-- No event of the sequence, at the state it meets, restarts the cooldown. -/
def keepsCooldown : List Instr → State → Bool
  | [], _ => true
  | i :: is, s =>
    !restartsCooldown i s &&
      match exec i s with
      | .next t => keepsCooldown is t
      | .fault _ => true
      | .refused _ => true

/-- The block's registers at reset, whatever the inputs and the script are (R36); the start of a run. -/
def State.atReset (s : State) (script : List Stimulus) (b c : Level) (rnd : BitVec 8) : Prop :=
  s = (State.reset.setPins b c).feed script rnd

/-- R42: reachable from RESET by steps. -/
inductive Reachable : State → Prop where
  | start {s : State} {script : List Stimulus} {b c : Level} {rnd : BitVec 8} :
      s.atReset script b c rnd → Reachable s
  | next {s t : State} : Reachable s → step s = .next t → Reachable t

end Sys2Proof.Machine
end

