-- ==== Sys2Proof/Certificates/Slice0/Obligations.lean ====
section
/-! DEFINITION. The statements for the provers, from the numbered rules of spec/. A free or open value (the opaque constants of Config) stands for every value it may have. -/

open Sys2Proof Sys2Proof.Machine
open Sys2Proof.Config (Params params)

/-! ### Encodings (30_encoding.md) -/

/-- R92: the eleven event words of the table, SET_INPUTS with each of its operands, and no other word decodes. -/
def Obligations.EventWordsDecode : Prop :=
  decodeEvent 0x10 = .ok .reset ∧ decodeEvent 0x20 = .ok .msTick ∧ decodeEvent 0x30 = .ok .tick ∧
  decodeEvent 0x40 = .ok .txUnit ∧ decodeEvent 0x50 = .ok .wake ∧
  (∀ b c : Bool, decodeEvent (0b011000#6 ++ BitVec.ofBool b ++ BitVec.ofBool c) = .ok (.setInputs b c)) ∧
  decodeEvent 0x80 = .ok .buildPayload ∧ decodeEvent 0x90 = .ok .txStart ∧ decodeEvent 0xA0 = .ok .txEnd ∧
  decodeEvent 0xB0 = .ok .tickB ∧ decodeEvent 0xC0 = .ok .sleepEnter ∧
  ∀ (ev : BitVec 8) (i : Instr), decodeEvent ev = .ok i →
    ev ∈ [0x10#8, 0x20#8, 0x30#8, 0x40#8, 0x50#8, 0x60#8, 0x61#8, 0x62#8, 0x63#8, 0x80#8, 0x90#8, 0xA0#8,
      0xB0#8, 0xC0#8]

/-- Decode and encode agree on every operation: every event, and every wire symbol at its own position (behind the payload bits for TRAILER_BIT, before them for BIT1; R79); and where a burst stands at a symbol's first T unit, the position by which a step decodes gives that symbol back. -/
def Obligations.DecodeOfEncode : Prop :=
  (∀ i : Instr, (i ≠ .trailerBit → decode params false (encode params i) = .ok i) ∧
    (i ≠ .bit1 → decode params true (encode params i) = .ok i)) ∧
  ∀ (s : State) (i : Instr), s.atSymbol i = true → decode params s.inTrailer (encode params i) = .ok i

/-- R91: an event word offered from outside whose code is reserved or internal, or whose must-be-zero bits are not zero, is refused as ReservedEvent, at every state between events. R58, R90: events come one per step, and an internal event occurs only as a part of an external one: what a step takes between events is an external event or has no meaning, no internal event and no wire symbol; after every step no part is left to run, and so it is at every state reachable from RESET. The field `part` that says so is the model's own (logs 5 and 6). -/
def Obligations.ReservedEventsAreRefused : Prop :=
  (∀ (s : State) (ev rnd : BitVec 8) (rest : List Stimulus),
    (ev.extractLsb' 4 4 ∈ [0x0#4, 0x7#4, 0xD#4, 0xE#4, 0xF#4] ∨
      ev.extractLsb' 4 4 ∈ [0x8#4, 0x9#4, 0xA#4, 0xB#4, 0xC#4] ∨
      (ev.extractLsb' 4 4 = 0x6#4 ∧ ev.extractLsb' 2 2 ≠ 0) ∨
      (ev.extractLsb' 4 4 ≠ 0x6#4 ∧ ev.extractLsb' 0 4 ≠ 0)) →
    ∃ why, step { s with part := none, script := ⟨ev, rnd⟩ :: rest } = .refused (.reservedEvent why)) ∧
  (∀ (s u : State) (o : Offer) (i : Instr), s.part = none → s.fetch = some (o, u) →
    decode params u.inTrailer o = .ok i → i.kind = .external) ∧
  (∀ s t : State, step s = .next t → t.part = none) ∧
  ∀ s : State, Reachable s → s.part = none

/-! ### Payload (40_payload_encoder.md) -/

/-- R71: the model's spreading constant is 2^32 + 1, and the multiplication by it places the code at bits 3:0 and 35:32 and nowhere else, as the packing of the code alone does. -/
def Obligations.ButtonSpreadPlacesBothCopies : Prop :=
  buttonSpread.toNat = 2 ^ 32 + 1 ∧
  ∀ code : BitVec 4, code.setWidth 64 * buttonSpread = 0#28 ++ code ++ 0#28 ++ code ∧
    packPayload 0 code 0 = 0#28 ++ code ++ 0#28 ++ code

/-- R100: the rule's expression is the concatenation of its four fields, for all of them. -/
def Obligations.PayloadIsConcatenation : Prop :=
  ∀ (upper : BitVec 28) (code : BitVec 4) (id : BitVec 28), packPayload upper code id = upper ++ code ++ id ++ code

/-- R104: both copies are the button code and the middle field is the identifier, for every code, identifier and rolling value. -/
def Obligations.PayloadFieldsAgree : Prop :=
  (∀ (upper : BitVec 28) (code : BitVec 4) (id : BitVec 28),
    (packPayload upper code id).extractLsb' 0 4 = code ∧ (packPayload upper code id).extractLsb' 32 4 = code ∧
    (packPayload upper code id).extractLsb' 4 28 = id) ∧
  ∀ rnd : BitVec 8,
    (payloadOf rnd).extractLsb' 0 4 = Config.buttonCode ∧ (payloadOf rnd).extractLsb' 32 4 = Config.buttonCode ∧
    (payloadOf rnd).extractLsb' 4 28 = Config.deviceId ∧ (payloadOf rnd).extractLsb' 36 28 = Config.payloadUpper rnd

/-- R106: two bursts agree in bits 35:0 always, and in bits 63:36 exactly when PAYLOAD_UPPER agrees on their rolling values. -/
def Obligations.BurstsAgreeBelowUpper : Prop :=
  ∀ r₁ r₂ : BitVec 8,
    (payloadOf r₁).extractLsb' 0 36 = (payloadOf r₂).extractLsb' 0 36 ∧
    ((payloadOf r₁).extractLsb' 36 28 = (payloadOf r₂).extractLsb' 36 28 ↔
      Config.payloadUpper r₁ = Config.payloadUpper r₂)

/-- R100: BUILD_PAYLOAD computes the payload of the rolling value and writes no register of the block; its value stands in the model's own `builtPayload` (log 11). That it runs by itself, in every state, is the model's choice (log 5); in the block it occurs only inside TX_START. -/
def Obligations.BuildPayloadResult : Prop :=
  ∀ s : State, s.Legal →
    exec .buildPayload s = .next { s with
      builtPayload := (Config.payloadUpper s.rndI).setWidth 64 <<< 36 ||| Config.buttonCode.setWidth 64 * 0x100000001#64
        ||| Config.deviceId.setWidth 64 <<< 4 }

/-! ### The wire (30_encoding.md section 2, 41_tx_timing.md) -/

/-- R8: the derived constants at the defaults, with the real-time lengths of a burst and a repetition; R130: the slots' start times, one T apart, and the burst's end behind the last; R28: `tx_slot`, 11 bits at the defaults, has for any parameters the least width that holds `BURST_T - 1`. -/
def Obligations.DerivedLengths : Prop :=
  preT params = 24 ∧ Config.bitT = 3 ∧ dataT params = 198 ∧ repT params = 271 ∧ burstT params = 1084 ∧
  micros params (burstT params) = 447692 ∧ micros params (repT params) = 111923 ∧
  (∀ t0 k, slotStart params t0 0 = t0 ∧ slotStart params t0 (k + 1) = slotStart params t0 k + 413 ∧
    slotStart params t0 1084 = burstEnd params t0) ∧
  slotWidth params = 11 ∧
  ∀ p : Params, 1 < burstT p → burstT p - 1 < 2 ^ slotWidth p ∧ ∀ w, burstT p - 1 < 2 ^ w → slotWidth p ≤ w

/-- R75 and R78: for any parameters, a repetition's levels are its symbols' levels in order with no time between them, and a burst is REPS of them back to back. -/
def Obligations.LevelsAreSymbolsInOrder : Prop :=
  ∀ (p : Params) (P : Payload),
    repetitionLevels p P = ((repetitionSymbols p P).map (symbolLevels p)).flatten ∧
    burstLevels p P = (List.replicate p.reps (repetitionLevels p P)).flatten

/-- R75, R76 and R78: where in a repetition each symbol begins, and that none begins elsewhere; and where a symbol begins, the level function gives its levels unit by unit. -/
def Obligations.SymbolAtItsStart : Prop :=
  (∀ P : Payload,
    (∀ k, k < 12 → symbolStart params P (2 * k) = some .preCycle) ∧ symbolStart params P 24 = some .syncGap ∧
    (∀ k, k < 64 → symbolStart params P (34 + 3 * k) = some (bitSymbol P k)) ∧
    symbolStart params P 226 = some .trailerBit ∧ symbolStart params P 229 = some .trailerBit ∧
    symbolStart params P 232 = some .pktGap ∧
    ∀ r i, symbolStart params P r = some i →
      (∃ k, k < 12 ∧ r = 2 * k) ∨ r = 24 ∨ (∃ k, k < 66 ∧ r = 34 + 3 * k) ∨ r = 232) ∧
  ∀ (P : Payload) (r : Nat) (i : Instr), symbolStart params P r = some i →
    ∀ j, (h : j < (symbolLevels params i).length) → repLevel params P (r + j) = (symbolLevels params i)[j]

/-- R121: for any parameters with a preamble cycle and a trailer bit, the run list of a burst stands for the level function slot by slot; a burst has `BURST_T` slots. -/
def Obligations.RunListIsLevelFunction : Prop :=
  ∀ (p : Params) (P : Payload), 0 < p.preCycles → 0 < p.trailerBits →
    expandRuns (burstRuns p P) = burstLevels p P ∧ (burstLevels p P).length = burstT p

/-- R79: the runs of a repetition give back its symbols in order, the first trailer bit as a BIT1; and so, from the level stream alone, do the levels of a burst, however long the line is idle before it and behind it. -/
def Obligations.RunPairsDecode : Prop :=
  (∀ P : Payload, decodeRuns params (repetitionRuns params P) =
    some (List.replicate 12 .preCycle ++ [.syncGap] ++ (List.range 64).map (bitSymbol P)
      ++ [.bit1, .trailerBit, .pktGap])) ∧
  ∀ (P : Payload) (before after : Nat),
    decodeLevels params (List.replicate before false ++ burstLevels params P ++ List.replicate after false) =
      some (List.replicate 4 (List.replicate 12 .preCycle ++ [.syncGap] ++ (List.range 64).map (bitSymbol P)
        ++ [.bit1, .trailerBit, .pktGap])).flatten

/-- R132: for every payload and every repetition of its burst, the inverse bit-timing decode gives back the payload, `P[63]` first, and the trailer `11`; and equal bits mean equal payloads. -/
def Obligations.WireRoundTrip : Prop :=
  (∀ (P : Payload) (m : Nat), m < params.reps →
    decodeRepetition params (fun r => level params P (repT params * m + r)) =
      some (payloadBitsMsbFirst P ++ [true, true])) ∧
  ∀ P Q : Payload, payloadBitsMsbFirst P = payloadBitsMsbFirst Q → P = Q

/-- R131: HIGH slots of a repetition and of a burst, the burst's at the two extreme payloads, and the rising edges of every repetition. -/
def Obligations.HighTime : Prop :=
  (∀ P : Payload,
    highCount (repetitionLevels params P) = 142 - popcount P ∧
    highCount (burstLevels params P) = 4 * (142 - popcount P) ∧
    risingEdges false (repetitionLevels params P) = 78) ∧
  highCount (burstLevels params 0) = 568 ∧ highCount (burstLevels params 0xFFFFFFFFFFFFFFFF) = 312

/-- R221: a burst of 447 692 µs holds 447 or 448 MS_TICKs, by the millisecond phase at its start, and both occur. -/
def Obligations.MsTicksInBurst : Prop :=
  (∀ phase, phase < 1000 →
    msTicksWithin phase (micros params (burstT params)) = 447 ∨
    msTicksWithin phase (micros params (burstT params)) = 448) ∧
  (∃ phase, phase < 1000 ∧ msTicksWithin phase (micros params (burstT params)) = 447) ∧
  ∃ phase, phase < 1000 ∧ msTicksWithin phase (micros params (burstT params)) = 448

/-! ### The TX timing generator (41_tx_timing.md) -/

/-- R126: `tx_o` is the level function at the current slot in a burst, and LOW outside one. -/
def Obligations.OutputLevel : Prop :=
  ∀ s : State, (s.txBusy = true → s.txO = level params s.txPayload s.txSlot.toNat) ∧ (s.txBusy = false → s.txO = false)

/-- R125: TX_START at its place (log 5) loads the payload that BUILD_PAYLOAD returns for the value on `rnd_i`, starts at slot 0 and drives the first preamble HIGH; the permit and every other register stay. R90, R154: it is the part of a TICK that starts a burst, behind the snapshot and the heartbeat. -/
def Obligations.TxStartResult : Prop :=
  (∀ s : State, s.IsAwake → s.txBusy = false → s.txAllowed = true →
    ∃ t u, exec .txStart s = .next t ∧ t.txO = true ∧
      t = { s with builtPayload := payloadOf s.rndI, txPayload := payloadOf s.rndI, txSlot := 0, txBusy := true } ∧
      exec .buildPayload s = .next u ∧ t = { u with txPayload := u.builtPayload, txSlot := 0, txBusy := true }) ∧
  ∀ s : State, s.IsAwake → s.txBusy = false → (s.HeartbeatHolds ∨ s.txAllowed = true) →
    ∃ t, exec .tick s = .next t ∧
      exec .txStart { s with
        tkNow := s.nowMs, tkBtn := !s.buttonN, tkChg := !s.chargerN, txAllowed := true
        cooldownTs := if s.HeartbeatHolds then s.nowMs else s.cooldownTs } = .next t

/-- R127: below the last slot TX_UNIT advances the slot by one and changes nothing else; the same of a block with any parameters. -/
def Obligations.TxUnitAdvances : Prop :=
  (∀ s : State, s.ctrlState ≠ .reserved11 → s.txBusy = true → s.txSlot.toNat + 1 < burstT params →
    exec .txUnit s = .next { s with txSlot := s.txSlot + 1 }) ∧
  ∀ (p : Params) (s : State p), s.ctrlState ≠ .reserved11 → s.txBusy = true → s.txSlot.toNat + 1 < burstT p →
    s.perform .txUnit = .next { s with txSlot := s.txSlot + 1 } ∧ (s.txSlot + 1).toNat = s.txSlot.toNat + 1

/-- R128: the TX_UNIT that closes the last slot ends the burst: busy and the permit are cleared, the pin is LOW, and phase B of the suspended tick follows in the same step, as TICK_B by itself would at the state so cleared; TX_END by itself answers the same (log 5). -/
def Obligations.LastTxUnitEndsBurst : Prop :=
  ∀ s : State, s.IsAwake → s.txBusy = true → s.txSlot.toNat + 1 = burstT params →
    ∃ t, exec .txUnit s = .next t ∧ exec .txEnd s = .next t ∧
      exec .tickB { s with txBusy := false, txAllowed := false } = .next t ∧
      t.txBusy = false ∧ t.txAllowed = false ∧ t.txO = false ∧ t.txSlot = s.txSlot ∧ t.txPayload = s.txPayload

/-- R76 with R127, for PRE_CYCLE, SYNC_GAP, BIT0, BIT1, TRAILER_BIT and a PKT_GAP before the last: where the generator stands at the symbol's first T unit, it is sent whole: the slot advances by its length, nothing else changes, and `tx_o` takes its levels. A symbol as one step is the model's (log 6). -/
def Obligations.SymbolIsSent : Prop :=
  ∀ (s : State) (i : Instr), s.Legal → s.txBusy = true →
    symbolStart params s.txPayload (s.txSlot.toNat % repT params) = some i →
    s.txSlot.toNat + (symbolLevels params i).length < burstT params →
    exec i s = .next { s with txSlot := s.txSlot + BitVec.ofNat _ (symbolLevels params i).length } ∧
    ∀ j, (h : j < (symbolLevels params i).length) →
      State.txO { s with txSlot := s.txSlot + BitVec.ofNat _ j } = (symbolLevels params i)[j]

/-- R124, R128 and log 6: the PKT_GAP of the last repetition ends the burst as the last TX_UNIT does. -/
def Obligations.LastGapEndsBurst : Prop :=
  ∀ s : State, s.IsAwake → s.txBusy = true → s.txSlot.toNat + params.gapT = burstT params →
    ∃ t, exec .pktGap s = .next t ∧ exec .txUnit { s with txSlot := 1083 } = .next t ∧
      t.txBusy = false ∧ t.txAllowed = false ∧ t.txO = false

/-- R129 and R54: whatever happens in a burst but RESET, either it goes on with the same payload and permit and a slot not lower, or it has come to its end. -/
def Obligations.OnlyResetStopsBurst : Prop :=
  ∀ (i : Instr) (s t : State), s.txBusy = true → i ≠ .reset → exec i s = .next t → s.BlockInv →
    (t.txBusy = true ∧ t.txPayload = s.txPayload ∧ t.txAllowed = s.txAllowed ∧ s.txSlot.toNat ≤ t.txSlot.toNat ∧
      t.tkNow = s.tkNow ∧ t.tkBtn = s.tkBtn ∧ t.tkChg = s.tkChg) ∨
    (t.txBusy = false ∧ t.txAllowed = false ∧ (i = .txUnit ∨ i = .txEnd ∨ i = .pktGap) ∧
      s.txSlot.toNat + (if i = .pktGap then params.gapT else 1) = burstT params)

/-- R127, R120 and R215: any interleaving of TX_UNITs with MS_TICKs and SET_INPUTS runs, and while fewer TX_UNITs have come than the burst still needs it is in progress, at the slot that counts them, with payload, permit and tick snapshot as they were. -/
def Obligations.BurstProgress : Prop :=
  ∀ (es : List Instr) (s : State), s.Legal → s.txBusy = true → es.all duringBurst = true →
    s.txSlot.toNat + es.count .txUnit < burstT params →
    ∃ t, execAll es s = .next t ∧ t.txBusy = true ∧ t.txSlot.toNat = s.txSlot.toNat + es.count .txUnit ∧
      t.txPayload = s.txPayload ∧ t.txAllowed = s.txAllowed ∧ t.ctrlState = s.ctrlState ∧
      t.tkNow = s.tkNow ∧ t.tkBtn = s.tkBtn ∧ t.tkChg = s.tkChg ∧
      t.nowMs = s.nowMs + BitVec.ofNat _ (es.count .msTick)

/-- R120, R128, R94 and R133: after exactly as many TX_UNITs as the burst needs, in any interleaving, the burst is over, the permit is cleared and the pin is LOW; the millisecond counter has counted through it. From a burst's start these are the sequences RUN_BURST stands for. -/
def Obligations.BurstRunsToItsEnd : Prop :=
  ∀ (es : List Instr) (s : State), s.BlockInv → s.txBusy = true → es.all duringBurst = true →
    s.txSlot.toNat + es.count .txUnit = burstT params →
    ∃ t, execAll es s = .next t ∧ t.txBusy = false ∧ t.txAllowed = false ∧ t.txO = false ∧
      t.nowMs = s.nowMs + BitVec.ofNat _ (es.count .msTick) ∧ t.BlockInv

/-! ### The activity controller (42_activity_controller.md) -/

/-- R150: MS_TICK adds one modulo 2^TW to `now_ms` and changes nothing else, at the default TW = 32 and for any parameters. -/
def Obligations.MsTickResult : Prop :=
  (∀ s : State, s.Legal →
    exec .msTick s = .next { s with nowMs := s.nowMs + 1 } ∧ (s.nowMs + 1).toNat = (s.nowMs.toNat + 1) % 2 ^ 32) ∧
  ∀ (p : Params) (s : State p), s.Legal →
    s.perform .msTick = .next { s with nowMs := s.nowMs + 1 } ∧
    (s.nowMs + 1).toNat = (s.nowMs.toNat + 1) % 2 ^ p.tw

/-- R151: elapsed time is the difference modulo 2^TW, for every width TW, compared unsigned by `≥`, and the true elapsed time while fewer than 2^TW ms passed, also across the wrap. -/
def Obligations.ElapsedIsTrueTime : Prop :=
  ∀ (p : Params) (ts n : Millis p), (elapsed ts n).toNat = (n.toNat + (2 ^ p.tw - ts.toNat)) % 2 ^ p.tw ∧
    (∀ threshold, elapsedAtLeast ts n threshold = true ↔ threshold ≤ (elapsed ts n).toNat) ∧
    ∀ k, k < 2 ^ p.tw → (elapsed ts (ts + BitVec.ofNat _ k)).toNat = k

/-- R158: SET_INPUTS drives the two pins, in every state, and changes no register. -/
def Obligations.SetInputsResult : Prop :=
  ∀ (b c : Level) (s : State), s.Legal → exec (.setInputs b c) s = .next { s with buttonN := b, chargerN := c }

/-- R152, R153, R154: an awake block with a heartbeat due or a permit held starts one burst at a TICK: the snapshot is taken, the heartbeat rewrites `cooldown_ts`, the permit stays set, `idle_ts` and `ctrl_state` wait for phase B; the same of a block with any parameters. `builtPayload` is the model's own field (log 11). -/
def Obligations.TickStartsBurst : Prop :=
  (∀ s : State, s.IsAwake → s.txBusy = false → (s.HeartbeatHolds ∨ s.txAllowed = true) →
    exec .tick s = .next { s with
      tkNow := s.nowMs, tkBtn := !s.buttonN, tkChg := !s.chargerN, txAllowed := true
      cooldownTs := if s.HeartbeatHolds then s.nowMs else s.cooldownTs
      builtPayload := payloadOf s.rndI, txPayload := payloadOf s.rndI, txSlot := 0, txBusy := true }) ∧
  ∀ (p : Params) (s : State p), s.IsAwake → s.txBusy = false → (s.HeartbeatHolds ∨ s.txAllowed = true) →
    s.perform .tick = .next { s with
      tkNow := s.nowMs, tkBtn := !s.buttonN, tkChg := !s.chargerN, txAllowed := true
      cooldownTs := if s.HeartbeatHolds then s.nowMs else s.cooldownTs
      builtPayload := payloadOf s.rndI, txPayload := payloadOf s.rndI, txSlot := 0, txBusy := true }

/-- R156, R159, R163: a TICK without permit or heartbeat that sees the button or the charger refreshes `idle_ts` to the tick's time, makes the block AWAKE_ACTIVE and sends nothing. -/
def Obligations.TickRefreshesIdle : Prop :=
  ∀ s : State, s.IsAwake → s.txBusy = false → ¬ s.HeartbeatHolds → s.txAllowed = false →
    (s.buttonN = false ∨ s.chargerN = false) →
    exec .tick s = .next { s with
      tkNow := s.nowMs, tkBtn := !s.buttonN, tkChg := !s.chargerN, idleTs := s.nowMs, ctrlState := .awakeActive }

/-- R157, R160: a TICK without permit that sees no input, with the idle time elapsed, enters SLEEPING; the same of a block with any parameters. -/
def Obligations.TickEntersSleep : Prop :=
  (∀ s : State, s.IsAwake → s.txBusy = false → s.txAllowed = false → s.buttonN = true → s.chargerN = true →
    params.idleMs ≤ (s.nowMs - s.idleTs).toNat →
    exec .tick s = .next { s with
      tkNow := s.nowMs, tkBtn := false, tkChg := false, ledOff := true, adcEn := false, irqBtnEn := true
      irqChgEn := true, ctrlState := .sleeping }) ∧
  ∀ (p : Params) (s : State p), s.IsAwake → s.txBusy = false → s.txAllowed = false → s.buttonN = true →
    s.chargerN = true → p.idleMs ≤ (s.nowMs - s.idleTs).toNat →
    s.perform .tick = .next { s with
      tkNow := s.nowMs, tkBtn := false, tkChg := false, ledOff := true, adcEn := false, irqBtnEn := true
      irqChgEn := true, ctrlState := .sleeping }

/-- R155, R163: a TICK without permit that sees no input before the idle time has elapsed leaves the block AWAKE_IDLE. -/
def Obligations.TickStaysAwake : Prop :=
  ∀ s : State, s.IsAwake → s.txBusy = false → s.txAllowed = false → s.buttonN = true → s.chargerN = true →
    (s.nowMs - s.idleTs).toNat < params.idleMs →
    exec .tick s = .next { s with tkNow := s.nowMs, tkBtn := false, tkChg := false, ctrlState := .awakeIdle }

/-- R155: TICK_B at its place (log 5), on the snapshot: idle refresh, sleep entry, or AWAKE_IDLE, and nothing else. R90, R152: it is the part of a TICK without heartbeat and permit that follows the snapshot. -/
def Obligations.TickBResult : Prop :=
  (∀ s : State, s.IsAwake → s.txBusy = false → s.txAllowed = false →
    exec .tickB s = .next
      (if s.tkBtn = true ∨ s.tkChg = true then { s with idleTs := s.tkNow, ctrlState := .awakeActive }
        else if params.idleMs ≤ (s.tkNow - s.idleTs).toNat then
          { s with ledOff := true, adcEn := false, irqBtnEn := true, irqChgEn := true, ctrlState := .sleeping }
        else { s with ctrlState := .awakeIdle })) ∧
  ∀ s : State, s.IsAwake → s.txBusy = false → s.txAllowed = false → ¬ s.HeartbeatHolds →
    ∃ t, exec .tick s = .next t ∧
      exec .tickB { s with tkNow := s.nowMs, tkBtn := !s.buttonN, tkChg := !s.chargerN } = .next t

/-- R160: SLEEP_ENTER at its place (log 5), with the outputs it leaves; R90: there it is all that TICK_B does. -/
def Obligations.SleepEnterResult : Prop :=
  ∀ s : State, s.IsAwake → s.txBusy = false → s.txAllowed = false → s.tkBtn = false → s.tkChg = false →
    params.idleMs ≤ (s.tkNow - s.idleTs).toNat →
    ∃ t, exec .sleepEnter s = .next t ∧ exec .tickB s = .next t ∧
      t.sleepO = true ∧ t.txO = false ∧ t.adcEnO = false ∧ t.ledOffO = true ∧
      t = { s with ledOff := true, adcEn := false, irqBtnEn := true, irqChgEn := true, ctrlState := .sleeping }

/-- R164: between two heartbeat grants with no WAKE and no RESET between them, at least `COOLDOWN_MS` have elapsed from the first one's snapshot to the second one's, whatever the events between; the events between are those up to the next grant. -/
def Obligations.HeartbeatSpacing : Prop :=
  ∀ (es : List Instr) (s t u : State), s.HeartbeatHolds → exec .tick s = .next t →
    keepsCooldown es t = true → execAll es t = .next u → u.HeartbeatHolds →
    params.cooldownMs ≤ (elapsed s.nowMs u.nowMs).toNat

/-- R21, R163: no enabling and no effect depends on which of AWAKE_IDLE and AWAKE_ACTIVE holds: from two states that differ in that alone, every operation answers alike, and the next states differ in nothing but `ctrl_state`. -/
def Obligations.IdleActiveIndistinguishable : Prop :=
  ∀ (i : Instr) (s : State), s.ctrlState = .awakeIdle →
    match exec i s, exec i { s with ctrlState := .awakeActive } with
    | .next t, .next t' => t' = { t with ctrlState := t'.ctrlState } ∧ (t.ctrlState = .sleeping ↔ t'.ctrlState = .sleeping)
    | .fault r, .fault r' => r = r'
    | .refused r, .refused r' => r = r'
    | _, _ => False

/-! ### Wake, power, errors (60_exceptions.md) -/

/-- R185: WAKE, in SLEEPING with a request, and nowhere else. -/
def Obligations.WakeResult : Prop :=
  (∀ s : State, s.ctrlState = .sleeping → s.Legal → s.WakeRequested →
    exec .wake s = .next { s with
      adcEn := true, idleTs := s.nowMs, cooldownTs := s.nowMs, txAllowed := true, irqBtnEn := false
      irqChgEn := false, ledOff := false, ctrlState := .awakeIdle }) ∧
  ∀ s t : State, exec .wake s = .next t → s.ctrlState = .sleeping ∧ s.WakeRequested

/-- R186, R188, R190: whichever pin woke the block, no second WAKE follows: right after one, WAKE is not enabled, and the first TICK sends a burst even if the pin has returned HIGH. -/
def Obligations.WakeOnceThenBurst : Prop :=
  ∀ (b c : Level) (s t : State), s.txBusy = false → exec .wake s = .next t →
    exec .wake t = .refused .notEnabled ∧
    ∃ u v, exec (.setInputs b c) t = .next u ∧ exec .tick u = .next v ∧ v.txBusy = true ∧ v.txSlot = 0 ∧
      v.txPayload = payloadOf s.rndI

/-- R59, R186: in a state that meets the invariants, no two of TICK, TX_UNIT and WAKE answer a next state. -/
def Obligations.NeverEnabledTogether : Prop :=
  ∀ (i j : Instr) (s t u : State), s.BlockInv → i ∈ [.tick, .txUnit, .wake] → j ∈ [.tick, .txUnit, .wake] →
    exec i s = .next t → exec j s = .next u → i = j

/-- R182: an event other than RESET faults exactly where it finds a reserved code, with ReservedState; RESET never does and clears both; a state that meets the invariants holds none. That the fault comes before the enabling test, and that internal events and wire symbols run by themselves fault too, is the model's reading (log 19). -/
def Obligations.ReservedStateFaults : Prop :=
  (∀ (i : Instr) (s : State) (r : Fault), exec i s = .fault r ↔ i ≠ .reset ∧ ¬ s.Legal ∧ r = .reservedState) ∧
  (∀ s : State, ∃ t, exec .reset s = .next t ∧ t.Legal) ∧
  (∀ s : State, s.BlockInv → s.Legal)

/-- R12, R127, R161, R185 with I21 to I23: exactly where its enabling condition is false has an event no step; the request is not remembered: a step that meets it drops the offer, and the block stands as it stood. That step drops it and goes on is the model's reading (log 2). -/
def Obligations.DisabledEventsDoNotOccur : Prop :=
  ∀ s : State, s.Legal →
    (exec .tick s = .refused .notEnabled ↔ ¬ (s.IsAwake ∧ s.txBusy = false)) ∧
    (exec .txUnit s = .refused .notEnabled ↔ s.txBusy = false) ∧
    (exec .wake s = .refused .notEnabled ↔ ¬ (s.ctrlState = .sleeping ∧ s.WakeRequested)) ∧
    ∀ (i : Instr) (rest : List Stimulus) (st : Stimulus), s.part = none → s.script = st :: rest →
      decode params (s.feed rest st.rnd).inTrailer (.outside st.word) = .ok i → exec i (s.feed rest st.rnd) = .refused .notEnabled →
      step s = .next { s with script := rest, rndI := st.rnd }

/-- R195: SLEEPING is left only by WAKE or RESET, and only SLEEP_ENTER enters it: with no input in the snapshot, the idle time elapsed, and its writes made. -/
def Obligations.SleepEntryAndExit : Prop :=
  ∀ (i : Instr) (s t : State), s.BlockInv → exec i s = .next t →
    (s.ctrlState = .sleeping → t.ctrlState ≠ .sleeping → i = .wake ∨ i = .reset) ∧
    (s.ctrlState ≠ .sleeping → t.ctrlState = .sleeping →
      t.tkBtn = false ∧ t.tkChg = false ∧ params.idleMs ≤ (t.tkNow - t.idleTs).toNat ∧ t.idleTs = s.idleTs ∧
      t.adcEn = false ∧ t.ledOff = true ∧ t.irqBtnEn = true ∧ t.irqChgEn = true ∧ t.txBusy = false ∧
      t.txAllowed = false ∧ t.sleepO = true ∧ t.txO = false)

/-- R196: while the block sleeps every register keeps its value but `now_ms`; what else may change is outside the registers: the pins and the model's `builtPayload`. -/
def Obligations.SleepKeepsRegisters : Prop :=
  ∀ (i : Instr) (s t : State), s.BlockInv → s.ctrlState = .sleeping → i ≠ .wake → i ≠ .reset → exec i s = .next t →
    t = { s with
      nowMs := t.nowMs, buttonN := t.buttonN, chargerN := t.chargerN, builtPayload := t.builtPayload } ∧
    (i ≠ .msTick → t.nowMs = s.nowMs)

/-- R216: an input that is LOW at sleep entry, whenever it went LOW, is not lost: WAKE is enabled at once. -/
def Obligations.NoLostWake : Prop :=
  ∀ (i : Instr) (s t : State), s.BlockInv → exec i s = .next t → s.ctrlState ≠ .sleeping → t.ctrlState = .sleeping →
    (t.buttonN = false ∨ t.chargerN = false) →
    ∃ u, exec .wake t = .next u ∧ u.ctrlState = .awakeIdle ∧ u.txAllowed = true

/-! ### Who writes what (10_state.md) -/

/-- R22: the permit is set only by a heartbeat TICK and by WAKE, cleared only at a burst's end; beside those only RESET writes it. -/
def Obligations.PermitWriters : Prop :=
  ∀ (i : Instr) (s t : State), s.BlockInv → i ≠ .reset → exec i s = .next t →
    (s.txAllowed = false → t.txAllowed = true → i = .wake ∨ (i = .tick ∧ s.HeartbeatHolds)) ∧
    (s.txAllowed = true → t.txAllowed = false → s.txBusy = true ∧ t.txBusy = false)

/-- R23, R192: only MS_TICK and RESET write `now_ms`. -/
def Obligations.NowWriters : Prop :=
  ∀ (i : Instr) (s t : State), i ≠ .msTick → i ≠ .reset → exec i s = .next t → t.nowMs = s.nowMs

/-- R24, R25: `idle_ts` is written by a phase B, in a TICK, at a burst's end or by itself, to the snapshot's time, or by WAKE to `now_ms`, `cooldown_ts` by a heartbeat TICK or WAKE, both to `now_ms`; beside those only RESET writes them. -/
def Obligations.TimestampWriters : Prop :=
  ∀ (i : Instr) (s t : State), i ≠ .reset → exec i s = .next t →
    (t.idleTs = s.idleTs ∨ (i = .wake ∧ t.idleTs = s.nowMs) ∨
      (i ∈ [.tick, .tickB, .txUnit, .txEnd, .pktGap] ∧ t.idleTs = t.tkNow ∧ t.ctrlState = .awakeActive ∧ (t.tkBtn = true ∨ t.tkChg = true))) ∧
    (t.cooldownTs = s.cooldownTs ∨ (i = .wake ∧ t.cooldownTs = s.nowMs) ∨
      (i = .tick ∧ s.HeartbeatHolds ∧ t.cooldownTs = s.nowMs))

/-- R184, R26: both sources are armed together, by sleep entry alone, and disarmed together, by WAKE and RESET alone; the ADC and LED drivers change only with them. -/
def Obligations.ArmingWriters : Prop :=
  ∀ (i : Instr) (s t : State), i ≠ .reset → exec i s = .next t →
    (t.irqBtnEn = s.irqBtnEn ∧ t.irqChgEn = s.irqChgEn ∧ t.adcEn = s.adcEn ∧ t.ledOff = s.ledOff) ∨
    (t.ctrlState = .sleeping ∧ t.irqBtnEn = true ∧ t.irqChgEn = true ∧ t.adcEn = false ∧ t.ledOff = true) ∨
    (i = .wake ∧ t.irqBtnEn = false ∧ t.irqChgEn = false ∧ t.adcEn = true ∧ t.ledOff = false)

/-- R60: MS_TICK and TX_UNIT due at the same instant give the same outcome in either order, at every state. -/
def Obligations.TimeBasesCommute : Prop :=
  ∀ s : State, execAll [.msTick, .txUnit] s = execAll [.txUnit, .msTick] s

/-! ### Reset and the step (70_reset_and_hazards.md, 30_encoding.md) -/

/-- R210, R36: RESET, in every state, puts every register at its reset value and leaves the inputs; a burst ends at once with the pin LOW and no phase B. The tick snapshot is unspecified: the free values of log 9. That the script stays is the model's choice, about its own field (log 1, DESIGN CHOICE), no rule of the spec. -/
def Obligations.ResetResult : Prop :=
  ∀ s : State, ∃ t, exec .reset s = .next t ∧
    t.ctrlState = .awakeIdle ∧ t.txAllowed = Config.resetPermit ∧ t.nowMs = 0 ∧ t.idleTs = 0 ∧ t.cooldownTs = 0 ∧
    t.irqBtnEn = false ∧ t.irqChgEn = false ∧ t.txBusy = false ∧ t.txSlot = 0 ∧ t.txPayload = 0 ∧
    t.adcEn = true ∧ t.ledOff = false ∧
    t.buttonN = s.buttonN ∧ t.chargerN = s.chargerN ∧ t.rndI = s.rndI ∧ t.script = s.script ∧
    t.txO = false ∧ t.sleepO = false ∧ t.adcEnO = true ∧ t.ledOffO = false ∧ t.busyO = false

/-- R211: whatever the pins, a first TICK after RESET with fewer than `COOLDOWN_MS` MS_TICKs between sends a burst if RESET_PERMIT is 1, and none if it is 0; and until `IDLE_MS` MS_TICKs have come, a first TICK does not put the block to sleep. -/
def Obligations.FirstTickAfterReset : Prop :=
  ∀ s t : State, exec .reset s = .next t →
    (∀ k, k < params.cooldownMs →
      ∃ u v, execAll (waitMs k) t = .next u ∧ exec .tick u = .next v ∧ v.txBusy = Config.resetPermit) ∧
    ∀ k, k < params.idleMs → ∃ u v, execAll (waitMs k) t = .next u ∧ exec .tick u = .next v ∧ v.sleepO = false

/-- The spec's reset state (R36) meets the invariants of R42, with the permit's, whatever the inputs and the script are (the script is the model's own field, log 1). -/
def Obligations.ResetMeetsInvariants : Prop :=
  ∀ (script : List Stimulus) (b c : Level) (rnd : BitVec 8) (s : State), s.atReset script b c rnd → s.BlockInv

/-- R42 (with R125, R160 on the permit), as an invariant of the step: from every state that meets it, whatever is offered. -/
def Obligations.StepKeepsInvariants : Prop :=
  ∀ s t : State, s.BlockInv → step s = .next t → t.BlockInv

/-- R42: the five invariants, of every state reachable from RESET. -/
def Obligations.ReachableStatesMeetR42 : Prop :=
  ∀ s : State, Reachable s →
    (s.irqBtnEn = s.irqChgEn ∧ s.irqBtnEn = decide (s.ctrlState = .sleeping)) ∧
    (s.txBusy = true → (s.ctrlState = .awakeIdle ∨ s.ctrlState = .awakeActive) ∧ s.txSlot.toNat < burstT params) ∧
    (s.ctrlState = .sleeping → s.txBusy = false ∧ s.txO = false ∧ s.adcEn = false ∧ s.ledOff = true) ∧
    (s.ctrlState = .awakeIdle ∨ s.ctrlState = .awakeActive → s.adcEn = true ∧ s.ledOff = false) ∧
    s.ctrlState.code ≠ 0b11#2

/-- R12: a step runs the decoded operation at the state that has taken it. What is taken: between events the environment's next word (log 1), else the internal event or wire symbol that is to run next (logs 5 and 6). With nothing to take the block waits, which is the model's choice (log 3). A table row's word placed by `withFetchWord` is the next thing taken. -/
def Obligations.StepRunsDecoded : Prop :=
  (∀ (s u : State) (o : Offer) (i : Instr), s.fetch = some (o, u) → decode params u.inTrailer o = .ok i →
    (∀ t, exec i u = .next t → step s = .next t) ∧
    (∀ r, exec i u = .fault r → step s = .fault r) ∧
    (exec i u = .refused .notEnabled → step s = .next u)) ∧
  (∀ (s : State) (st : Stimulus) (rest : List Stimulus), s.part = none → s.script = st :: rest →
    s.fetch = some (.outside st.word, { s with script := rest, rndI := st.rnd })) ∧
  (∀ (s : State) (q : Part), s.part = some q → s.fetch = some (q.offer, { s with part := none })) ∧
  (∀ s : State, s.part = none → s.script = [] → step s = .next s) ∧
  ∀ (s : State) (nbits w : Nat) (o : Offer), tableOffer nbits w = some o →
    (s.withFetchWord nbits w).fetch = some (o, { s with part := none })

/-! ### Scripts (30_encoding.md section 4) -/

/-- R93: every external event's spelling is read back as that event, also with a comment after it and any number of blanks before that (none included; log 24); no other operation has a spelling. -/
def Obligations.ScriptLinesReadBack : Prop :=
  ∀ i : Instr, (i.scriptable = true ↔ ∃ line, spelling i = some line) ∧
    ∀ line, spelling i = some line →
      parseLine line = some i ∧
      ∀ (blanks : Nat) (comment : List Char), parseLine (line ++ List.replicate blanks ' ' ++ ';' :: comment) = some i

/-- R94: WAIT_MS n adds n to `now_ms` and changes nothing else, in every state; TICK_AT t ticks at time t. -/
def Obligations.WaitAndTickAt : Prop :=
  ∀ (s : State), s.Legal →
    (∀ n, execAll (waitMs n) s = .next { s with nowMs := s.nowMs + BitVec.ofNat _ n }) ∧
    ∀ t, s.nowMs.toNat ≤ t → t < 2 ^ 32 →
      execAll (tickAt s.nowMs.toNat t) s = exec .tick { s with nowMs := BitVec.ofNat _ t }

/-- R94 with R213 and R221: a RUN_BURST from a burst's start ends the burst with the permit cleared, and `now_ms` has advanced by 447 or 448; SLEEP_WAKE_BTN in SLEEPING wakes the block with a permit. -/
def Obligations.RunBurstAndSleepWake : Prop :=
  (∀ (es : List Instr) (s : State), s.BlockInv → s.txBusy = true → s.txSlot = 0 → isRunBurst es = true →
    ∃ t, execAll es s = .next t ∧ t.txBusy = false ∧ t.txAllowed = false ∧
      (t.nowMs = s.nowMs + 447 ∨ t.nowMs = s.nowMs + 448)) ∧
  ∀ s : State, s.BlockInv → s.ctrlState = .sleeping →
    ∃ t, execAll sleepWakeBtn s = .next t ∧ t.ctrlState = .awakeIdle ∧ t.txAllowed = true ∧ t.idleTs = s.nowMs ∧
      t.cooldownTs = s.nowMs ∧ t.buttonN = false ∧ t.chargerN = true

/-! ### Any parameters (00_scope.md) -/

/-- That `exec` and `step`, the host's fixed names, are the block (State.perform, State.advance) at the default parameters, operation by operation and step by step, is the model's choice (log 15, DESIGN CHOICE); R6 says only that the literals are parameters with the source's values as defaults. -/
def Obligations.ExecIsBlockAtDefaults : Prop :=
  (∀ (i : Instr) (s : State), exec i s = s.perform i) ∧ ∀ s : State, step s = s.advance

/-- R42, with R6: the invariants hold after reset and every step keeps them, of a block with any legal parameters. That the model takes the parameters as an argument is log 15's, which values are legal log 23's choice. -/
def Obligations.InvariantsForAnyParameters : Prop :=
  ∀ p : Params, p.wf = true →
    (State.resetAt p).BlockInv ∧ ∀ s t : State p, s.BlockInv → s.advance = .next t → t.BlockInv
end

