-- ==== Sys2Proof/Laws/State.lean ====
section
/-! SUPPORT. One lemma for each field after each register update, by rfl, so that no later proof unfolds a record update. -/

namespace Sys2Proof.Machine

variable {p : Config.Params}

section setCtrl

variable (s : State p) (c : CtrlState)

@[simp] theorem State.setCtrl_ctrlState : (s.setCtrl c).ctrlState = c := rfl
@[simp] theorem State.setCtrl_txAllowed : (s.setCtrl c).txAllowed = s.txAllowed := rfl
@[simp] theorem State.setCtrl_nowMs : (s.setCtrl c).nowMs = s.nowMs := rfl
@[simp] theorem State.setCtrl_idleTs : (s.setCtrl c).idleTs = s.idleTs := rfl
@[simp] theorem State.setCtrl_cooldownTs : (s.setCtrl c).cooldownTs = s.cooldownTs := rfl
@[simp] theorem State.setCtrl_irqBtnEn : (s.setCtrl c).irqBtnEn = s.irqBtnEn := rfl
@[simp] theorem State.setCtrl_irqChgEn : (s.setCtrl c).irqChgEn = s.irqChgEn := rfl
@[simp] theorem State.setCtrl_txBusy : (s.setCtrl c).txBusy = s.txBusy := rfl
@[simp] theorem State.setCtrl_txSlot : (s.setCtrl c).txSlot = s.txSlot := rfl
@[simp] theorem State.setCtrl_txPayload : (s.setCtrl c).txPayload = s.txPayload := rfl
@[simp] theorem State.setCtrl_tkNow : (s.setCtrl c).tkNow = s.tkNow := rfl
@[simp] theorem State.setCtrl_tkBtn : (s.setCtrl c).tkBtn = s.tkBtn := rfl
@[simp] theorem State.setCtrl_tkChg : (s.setCtrl c).tkChg = s.tkChg := rfl
@[simp] theorem State.setCtrl_adcEn : (s.setCtrl c).adcEn = s.adcEn := rfl
@[simp] theorem State.setCtrl_ledOff : (s.setCtrl c).ledOff = s.ledOff := rfl
@[simp] theorem State.setCtrl_buttonN : (s.setCtrl c).buttonN = s.buttonN := rfl
@[simp] theorem State.setCtrl_chargerN : (s.setCtrl c).chargerN = s.chargerN := rfl
@[simp] theorem State.setCtrl_rndI : (s.setCtrl c).rndI = s.rndI := rfl
@[simp] theorem State.setCtrl_builtPayload : (s.setCtrl c).builtPayload = s.builtPayload := rfl
@[simp] theorem State.setCtrl_script : (s.setCtrl c).script = s.script := rfl
@[simp] theorem State.setCtrl_freeCount : (s.setCtrl c).freeCount = s.freeCount := rfl
@[simp] theorem State.setCtrl_part : (s.setCtrl c).part = s.part := rfl

end setCtrl

section setPermit

variable (s : State p) (b : Bool)

@[simp] theorem State.setPermit_ctrlState : (s.setPermit b).ctrlState = s.ctrlState := rfl
@[simp] theorem State.setPermit_txAllowed : (s.setPermit b).txAllowed = b := rfl
@[simp] theorem State.setPermit_nowMs : (s.setPermit b).nowMs = s.nowMs := rfl
@[simp] theorem State.setPermit_idleTs : (s.setPermit b).idleTs = s.idleTs := rfl
@[simp] theorem State.setPermit_cooldownTs : (s.setPermit b).cooldownTs = s.cooldownTs := rfl
@[simp] theorem State.setPermit_irqBtnEn : (s.setPermit b).irqBtnEn = s.irqBtnEn := rfl
@[simp] theorem State.setPermit_irqChgEn : (s.setPermit b).irqChgEn = s.irqChgEn := rfl
@[simp] theorem State.setPermit_txBusy : (s.setPermit b).txBusy = s.txBusy := rfl
@[simp] theorem State.setPermit_txSlot : (s.setPermit b).txSlot = s.txSlot := rfl
@[simp] theorem State.setPermit_txPayload : (s.setPermit b).txPayload = s.txPayload := rfl
@[simp] theorem State.setPermit_tkNow : (s.setPermit b).tkNow = s.tkNow := rfl
@[simp] theorem State.setPermit_tkBtn : (s.setPermit b).tkBtn = s.tkBtn := rfl
@[simp] theorem State.setPermit_tkChg : (s.setPermit b).tkChg = s.tkChg := rfl
@[simp] theorem State.setPermit_adcEn : (s.setPermit b).adcEn = s.adcEn := rfl
@[simp] theorem State.setPermit_ledOff : (s.setPermit b).ledOff = s.ledOff := rfl
@[simp] theorem State.setPermit_buttonN : (s.setPermit b).buttonN = s.buttonN := rfl
@[simp] theorem State.setPermit_chargerN : (s.setPermit b).chargerN = s.chargerN := rfl
@[simp] theorem State.setPermit_rndI : (s.setPermit b).rndI = s.rndI := rfl
@[simp] theorem State.setPermit_builtPayload : (s.setPermit b).builtPayload = s.builtPayload := rfl
@[simp] theorem State.setPermit_script : (s.setPermit b).script = s.script := rfl
@[simp] theorem State.setPermit_freeCount : (s.setPermit b).freeCount = s.freeCount := rfl
@[simp] theorem State.setPermit_part : (s.setPermit b).part = s.part := rfl

end setPermit

section setNow

variable (s : State p) (n : Millis p)

@[simp] theorem State.setNow_ctrlState : (s.setNow n).ctrlState = s.ctrlState := rfl
@[simp] theorem State.setNow_txAllowed : (s.setNow n).txAllowed = s.txAllowed := rfl
@[simp] theorem State.setNow_nowMs : (s.setNow n).nowMs = n := rfl
@[simp] theorem State.setNow_idleTs : (s.setNow n).idleTs = s.idleTs := rfl
@[simp] theorem State.setNow_cooldownTs : (s.setNow n).cooldownTs = s.cooldownTs := rfl
@[simp] theorem State.setNow_irqBtnEn : (s.setNow n).irqBtnEn = s.irqBtnEn := rfl
@[simp] theorem State.setNow_irqChgEn : (s.setNow n).irqChgEn = s.irqChgEn := rfl
@[simp] theorem State.setNow_txBusy : (s.setNow n).txBusy = s.txBusy := rfl
@[simp] theorem State.setNow_txSlot : (s.setNow n).txSlot = s.txSlot := rfl
@[simp] theorem State.setNow_txPayload : (s.setNow n).txPayload = s.txPayload := rfl
@[simp] theorem State.setNow_tkNow : (s.setNow n).tkNow = s.tkNow := rfl
@[simp] theorem State.setNow_tkBtn : (s.setNow n).tkBtn = s.tkBtn := rfl
@[simp] theorem State.setNow_tkChg : (s.setNow n).tkChg = s.tkChg := rfl
@[simp] theorem State.setNow_adcEn : (s.setNow n).adcEn = s.adcEn := rfl
@[simp] theorem State.setNow_ledOff : (s.setNow n).ledOff = s.ledOff := rfl
@[simp] theorem State.setNow_buttonN : (s.setNow n).buttonN = s.buttonN := rfl
@[simp] theorem State.setNow_chargerN : (s.setNow n).chargerN = s.chargerN := rfl
@[simp] theorem State.setNow_rndI : (s.setNow n).rndI = s.rndI := rfl
@[simp] theorem State.setNow_builtPayload : (s.setNow n).builtPayload = s.builtPayload := rfl
@[simp] theorem State.setNow_script : (s.setNow n).script = s.script := rfl
@[simp] theorem State.setNow_freeCount : (s.setNow n).freeCount = s.freeCount := rfl
@[simp] theorem State.setNow_part : (s.setNow n).part = s.part := rfl

end setNow

section setIdle

variable (s : State p) (n : Millis p)

@[simp] theorem State.setIdle_ctrlState : (s.setIdle n).ctrlState = s.ctrlState := rfl
@[simp] theorem State.setIdle_txAllowed : (s.setIdle n).txAllowed = s.txAllowed := rfl
@[simp] theorem State.setIdle_nowMs : (s.setIdle n).nowMs = s.nowMs := rfl
@[simp] theorem State.setIdle_idleTs : (s.setIdle n).idleTs = n := rfl
@[simp] theorem State.setIdle_cooldownTs : (s.setIdle n).cooldownTs = s.cooldownTs := rfl
@[simp] theorem State.setIdle_irqBtnEn : (s.setIdle n).irqBtnEn = s.irqBtnEn := rfl
@[simp] theorem State.setIdle_irqChgEn : (s.setIdle n).irqChgEn = s.irqChgEn := rfl
@[simp] theorem State.setIdle_txBusy : (s.setIdle n).txBusy = s.txBusy := rfl
@[simp] theorem State.setIdle_txSlot : (s.setIdle n).txSlot = s.txSlot := rfl
@[simp] theorem State.setIdle_txPayload : (s.setIdle n).txPayload = s.txPayload := rfl
@[simp] theorem State.setIdle_tkNow : (s.setIdle n).tkNow = s.tkNow := rfl
@[simp] theorem State.setIdle_tkBtn : (s.setIdle n).tkBtn = s.tkBtn := rfl
@[simp] theorem State.setIdle_tkChg : (s.setIdle n).tkChg = s.tkChg := rfl
@[simp] theorem State.setIdle_adcEn : (s.setIdle n).adcEn = s.adcEn := rfl
@[simp] theorem State.setIdle_ledOff : (s.setIdle n).ledOff = s.ledOff := rfl
@[simp] theorem State.setIdle_buttonN : (s.setIdle n).buttonN = s.buttonN := rfl
@[simp] theorem State.setIdle_chargerN : (s.setIdle n).chargerN = s.chargerN := rfl
@[simp] theorem State.setIdle_rndI : (s.setIdle n).rndI = s.rndI := rfl
@[simp] theorem State.setIdle_builtPayload : (s.setIdle n).builtPayload = s.builtPayload := rfl
@[simp] theorem State.setIdle_script : (s.setIdle n).script = s.script := rfl
@[simp] theorem State.setIdle_freeCount : (s.setIdle n).freeCount = s.freeCount := rfl
@[simp] theorem State.setIdle_part : (s.setIdle n).part = s.part := rfl

end setIdle

section setCooldown

variable (s : State p) (n : Millis p)

@[simp] theorem State.setCooldown_ctrlState : (s.setCooldown n).ctrlState = s.ctrlState := rfl
@[simp] theorem State.setCooldown_txAllowed : (s.setCooldown n).txAllowed = s.txAllowed := rfl
@[simp] theorem State.setCooldown_nowMs : (s.setCooldown n).nowMs = s.nowMs := rfl
@[simp] theorem State.setCooldown_idleTs : (s.setCooldown n).idleTs = s.idleTs := rfl
@[simp] theorem State.setCooldown_cooldownTs : (s.setCooldown n).cooldownTs = n := rfl
@[simp] theorem State.setCooldown_irqBtnEn : (s.setCooldown n).irqBtnEn = s.irqBtnEn := rfl
@[simp] theorem State.setCooldown_irqChgEn : (s.setCooldown n).irqChgEn = s.irqChgEn := rfl
@[simp] theorem State.setCooldown_txBusy : (s.setCooldown n).txBusy = s.txBusy := rfl
@[simp] theorem State.setCooldown_txSlot : (s.setCooldown n).txSlot = s.txSlot := rfl
@[simp] theorem State.setCooldown_txPayload : (s.setCooldown n).txPayload = s.txPayload := rfl
@[simp] theorem State.setCooldown_tkNow : (s.setCooldown n).tkNow = s.tkNow := rfl
@[simp] theorem State.setCooldown_tkBtn : (s.setCooldown n).tkBtn = s.tkBtn := rfl
@[simp] theorem State.setCooldown_tkChg : (s.setCooldown n).tkChg = s.tkChg := rfl
@[simp] theorem State.setCooldown_adcEn : (s.setCooldown n).adcEn = s.adcEn := rfl
@[simp] theorem State.setCooldown_ledOff : (s.setCooldown n).ledOff = s.ledOff := rfl
@[simp] theorem State.setCooldown_buttonN : (s.setCooldown n).buttonN = s.buttonN := rfl
@[simp] theorem State.setCooldown_chargerN : (s.setCooldown n).chargerN = s.chargerN := rfl
@[simp] theorem State.setCooldown_rndI : (s.setCooldown n).rndI = s.rndI := rfl
@[simp] theorem State.setCooldown_builtPayload : (s.setCooldown n).builtPayload = s.builtPayload := rfl
@[simp] theorem State.setCooldown_script : (s.setCooldown n).script = s.script := rfl
@[simp] theorem State.setCooldown_freeCount : (s.setCooldown n).freeCount = s.freeCount := rfl
@[simp] theorem State.setCooldown_part : (s.setCooldown n).part = s.part := rfl

end setCooldown

section setIrqs

variable (s : State p) (b : Bool)

@[simp] theorem State.setIrqs_ctrlState : (s.setIrqs b).ctrlState = s.ctrlState := rfl
@[simp] theorem State.setIrqs_txAllowed : (s.setIrqs b).txAllowed = s.txAllowed := rfl
@[simp] theorem State.setIrqs_nowMs : (s.setIrqs b).nowMs = s.nowMs := rfl
@[simp] theorem State.setIrqs_idleTs : (s.setIrqs b).idleTs = s.idleTs := rfl
@[simp] theorem State.setIrqs_cooldownTs : (s.setIrqs b).cooldownTs = s.cooldownTs := rfl
@[simp] theorem State.setIrqs_irqBtnEn : (s.setIrqs b).irqBtnEn = b := rfl
@[simp] theorem State.setIrqs_irqChgEn : (s.setIrqs b).irqChgEn = b := rfl
@[simp] theorem State.setIrqs_txBusy : (s.setIrqs b).txBusy = s.txBusy := rfl
@[simp] theorem State.setIrqs_txSlot : (s.setIrqs b).txSlot = s.txSlot := rfl
@[simp] theorem State.setIrqs_txPayload : (s.setIrqs b).txPayload = s.txPayload := rfl
@[simp] theorem State.setIrqs_tkNow : (s.setIrqs b).tkNow = s.tkNow := rfl
@[simp] theorem State.setIrqs_tkBtn : (s.setIrqs b).tkBtn = s.tkBtn := rfl
@[simp] theorem State.setIrqs_tkChg : (s.setIrqs b).tkChg = s.tkChg := rfl
@[simp] theorem State.setIrqs_adcEn : (s.setIrqs b).adcEn = s.adcEn := rfl
@[simp] theorem State.setIrqs_ledOff : (s.setIrqs b).ledOff = s.ledOff := rfl
@[simp] theorem State.setIrqs_buttonN : (s.setIrqs b).buttonN = s.buttonN := rfl
@[simp] theorem State.setIrqs_chargerN : (s.setIrqs b).chargerN = s.chargerN := rfl
@[simp] theorem State.setIrqs_rndI : (s.setIrqs b).rndI = s.rndI := rfl
@[simp] theorem State.setIrqs_builtPayload : (s.setIrqs b).builtPayload = s.builtPayload := rfl
@[simp] theorem State.setIrqs_script : (s.setIrqs b).script = s.script := rfl
@[simp] theorem State.setIrqs_freeCount : (s.setIrqs b).freeCount = s.freeCount := rfl
@[simp] theorem State.setIrqs_part : (s.setIrqs b).part = s.part := rfl

end setIrqs

section setPower

variable (s : State p) (a l : Bool)

@[simp] theorem State.setPower_ctrlState : (s.setPower a l).ctrlState = s.ctrlState := rfl
@[simp] theorem State.setPower_txAllowed : (s.setPower a l).txAllowed = s.txAllowed := rfl
@[simp] theorem State.setPower_nowMs : (s.setPower a l).nowMs = s.nowMs := rfl
@[simp] theorem State.setPower_idleTs : (s.setPower a l).idleTs = s.idleTs := rfl
@[simp] theorem State.setPower_cooldownTs : (s.setPower a l).cooldownTs = s.cooldownTs := rfl
@[simp] theorem State.setPower_irqBtnEn : (s.setPower a l).irqBtnEn = s.irqBtnEn := rfl
@[simp] theorem State.setPower_irqChgEn : (s.setPower a l).irqChgEn = s.irqChgEn := rfl
@[simp] theorem State.setPower_txBusy : (s.setPower a l).txBusy = s.txBusy := rfl
@[simp] theorem State.setPower_txSlot : (s.setPower a l).txSlot = s.txSlot := rfl
@[simp] theorem State.setPower_txPayload : (s.setPower a l).txPayload = s.txPayload := rfl
@[simp] theorem State.setPower_tkNow : (s.setPower a l).tkNow = s.tkNow := rfl
@[simp] theorem State.setPower_tkBtn : (s.setPower a l).tkBtn = s.tkBtn := rfl
@[simp] theorem State.setPower_tkChg : (s.setPower a l).tkChg = s.tkChg := rfl
@[simp] theorem State.setPower_adcEn : (s.setPower a l).adcEn = a := rfl
@[simp] theorem State.setPower_ledOff : (s.setPower a l).ledOff = l := rfl
@[simp] theorem State.setPower_buttonN : (s.setPower a l).buttonN = s.buttonN := rfl
@[simp] theorem State.setPower_chargerN : (s.setPower a l).chargerN = s.chargerN := rfl
@[simp] theorem State.setPower_rndI : (s.setPower a l).rndI = s.rndI := rfl
@[simp] theorem State.setPower_builtPayload : (s.setPower a l).builtPayload = s.builtPayload := rfl
@[simp] theorem State.setPower_script : (s.setPower a l).script = s.script := rfl
@[simp] theorem State.setPower_freeCount : (s.setPower a l).freeCount = s.freeCount := rfl
@[simp] theorem State.setPower_part : (s.setPower a l).part = s.part := rfl

end setPower

section setBusy

variable (s : State p) (b : Bool)

@[simp] theorem State.setBusy_ctrlState : (s.setBusy b).ctrlState = s.ctrlState := rfl
@[simp] theorem State.setBusy_txAllowed : (s.setBusy b).txAllowed = s.txAllowed := rfl
@[simp] theorem State.setBusy_nowMs : (s.setBusy b).nowMs = s.nowMs := rfl
@[simp] theorem State.setBusy_idleTs : (s.setBusy b).idleTs = s.idleTs := rfl
@[simp] theorem State.setBusy_cooldownTs : (s.setBusy b).cooldownTs = s.cooldownTs := rfl
@[simp] theorem State.setBusy_irqBtnEn : (s.setBusy b).irqBtnEn = s.irqBtnEn := rfl
@[simp] theorem State.setBusy_irqChgEn : (s.setBusy b).irqChgEn = s.irqChgEn := rfl
@[simp] theorem State.setBusy_txBusy : (s.setBusy b).txBusy = b := rfl
@[simp] theorem State.setBusy_txSlot : (s.setBusy b).txSlot = s.txSlot := rfl
@[simp] theorem State.setBusy_txPayload : (s.setBusy b).txPayload = s.txPayload := rfl
@[simp] theorem State.setBusy_tkNow : (s.setBusy b).tkNow = s.tkNow := rfl
@[simp] theorem State.setBusy_tkBtn : (s.setBusy b).tkBtn = s.tkBtn := rfl
@[simp] theorem State.setBusy_tkChg : (s.setBusy b).tkChg = s.tkChg := rfl
@[simp] theorem State.setBusy_adcEn : (s.setBusy b).adcEn = s.adcEn := rfl
@[simp] theorem State.setBusy_ledOff : (s.setBusy b).ledOff = s.ledOff := rfl
@[simp] theorem State.setBusy_buttonN : (s.setBusy b).buttonN = s.buttonN := rfl
@[simp] theorem State.setBusy_chargerN : (s.setBusy b).chargerN = s.chargerN := rfl
@[simp] theorem State.setBusy_rndI : (s.setBusy b).rndI = s.rndI := rfl
@[simp] theorem State.setBusy_builtPayload : (s.setBusy b).builtPayload = s.builtPayload := rfl
@[simp] theorem State.setBusy_script : (s.setBusy b).script = s.script := rfl
@[simp] theorem State.setBusy_freeCount : (s.setBusy b).freeCount = s.freeCount := rfl
@[simp] theorem State.setBusy_part : (s.setBusy b).part = s.part := rfl

end setBusy

section setSlot

variable (s : State p) (n : Slot p)

@[simp] theorem State.setSlot_ctrlState : (s.setSlot n).ctrlState = s.ctrlState := rfl
@[simp] theorem State.setSlot_txAllowed : (s.setSlot n).txAllowed = s.txAllowed := rfl
@[simp] theorem State.setSlot_nowMs : (s.setSlot n).nowMs = s.nowMs := rfl
@[simp] theorem State.setSlot_idleTs : (s.setSlot n).idleTs = s.idleTs := rfl
@[simp] theorem State.setSlot_cooldownTs : (s.setSlot n).cooldownTs = s.cooldownTs := rfl
@[simp] theorem State.setSlot_irqBtnEn : (s.setSlot n).irqBtnEn = s.irqBtnEn := rfl
@[simp] theorem State.setSlot_irqChgEn : (s.setSlot n).irqChgEn = s.irqChgEn := rfl
@[simp] theorem State.setSlot_txBusy : (s.setSlot n).txBusy = s.txBusy := rfl
@[simp] theorem State.setSlot_txSlot : (s.setSlot n).txSlot = n := rfl
@[simp] theorem State.setSlot_txPayload : (s.setSlot n).txPayload = s.txPayload := rfl
@[simp] theorem State.setSlot_tkNow : (s.setSlot n).tkNow = s.tkNow := rfl
@[simp] theorem State.setSlot_tkBtn : (s.setSlot n).tkBtn = s.tkBtn := rfl
@[simp] theorem State.setSlot_tkChg : (s.setSlot n).tkChg = s.tkChg := rfl
@[simp] theorem State.setSlot_adcEn : (s.setSlot n).adcEn = s.adcEn := rfl
@[simp] theorem State.setSlot_ledOff : (s.setSlot n).ledOff = s.ledOff := rfl
@[simp] theorem State.setSlot_buttonN : (s.setSlot n).buttonN = s.buttonN := rfl
@[simp] theorem State.setSlot_chargerN : (s.setSlot n).chargerN = s.chargerN := rfl
@[simp] theorem State.setSlot_rndI : (s.setSlot n).rndI = s.rndI := rfl
@[simp] theorem State.setSlot_builtPayload : (s.setSlot n).builtPayload = s.builtPayload := rfl
@[simp] theorem State.setSlot_script : (s.setSlot n).script = s.script := rfl
@[simp] theorem State.setSlot_freeCount : (s.setSlot n).freeCount = s.freeCount := rfl
@[simp] theorem State.setSlot_part : (s.setSlot n).part = s.part := rfl

end setSlot

section setPayload

variable (s : State p) (P : Payload)

@[simp] theorem State.setPayload_ctrlState : (s.setPayload P).ctrlState = s.ctrlState := rfl
@[simp] theorem State.setPayload_txAllowed : (s.setPayload P).txAllowed = s.txAllowed := rfl
@[simp] theorem State.setPayload_nowMs : (s.setPayload P).nowMs = s.nowMs := rfl
@[simp] theorem State.setPayload_idleTs : (s.setPayload P).idleTs = s.idleTs := rfl
@[simp] theorem State.setPayload_cooldownTs : (s.setPayload P).cooldownTs = s.cooldownTs := rfl
@[simp] theorem State.setPayload_irqBtnEn : (s.setPayload P).irqBtnEn = s.irqBtnEn := rfl
@[simp] theorem State.setPayload_irqChgEn : (s.setPayload P).irqChgEn = s.irqChgEn := rfl
@[simp] theorem State.setPayload_txBusy : (s.setPayload P).txBusy = s.txBusy := rfl
@[simp] theorem State.setPayload_txSlot : (s.setPayload P).txSlot = s.txSlot := rfl
@[simp] theorem State.setPayload_txPayload : (s.setPayload P).txPayload = P := rfl
@[simp] theorem State.setPayload_tkNow : (s.setPayload P).tkNow = s.tkNow := rfl
@[simp] theorem State.setPayload_tkBtn : (s.setPayload P).tkBtn = s.tkBtn := rfl
@[simp] theorem State.setPayload_tkChg : (s.setPayload P).tkChg = s.tkChg := rfl
@[simp] theorem State.setPayload_adcEn : (s.setPayload P).adcEn = s.adcEn := rfl
@[simp] theorem State.setPayload_ledOff : (s.setPayload P).ledOff = s.ledOff := rfl
@[simp] theorem State.setPayload_buttonN : (s.setPayload P).buttonN = s.buttonN := rfl
@[simp] theorem State.setPayload_chargerN : (s.setPayload P).chargerN = s.chargerN := rfl
@[simp] theorem State.setPayload_rndI : (s.setPayload P).rndI = s.rndI := rfl
@[simp] theorem State.setPayload_builtPayload : (s.setPayload P).builtPayload = s.builtPayload := rfl
@[simp] theorem State.setPayload_script : (s.setPayload P).script = s.script := rfl
@[simp] theorem State.setPayload_freeCount : (s.setPayload P).freeCount = s.freeCount := rfl
@[simp] theorem State.setPayload_part : (s.setPayload P).part = s.part := rfl

end setPayload

section setBuilt

variable (s : State p) (P : Payload)

@[simp] theorem State.setBuilt_ctrlState : (s.setBuilt P).ctrlState = s.ctrlState := rfl
@[simp] theorem State.setBuilt_txAllowed : (s.setBuilt P).txAllowed = s.txAllowed := rfl
@[simp] theorem State.setBuilt_nowMs : (s.setBuilt P).nowMs = s.nowMs := rfl
@[simp] theorem State.setBuilt_idleTs : (s.setBuilt P).idleTs = s.idleTs := rfl
@[simp] theorem State.setBuilt_cooldownTs : (s.setBuilt P).cooldownTs = s.cooldownTs := rfl
@[simp] theorem State.setBuilt_irqBtnEn : (s.setBuilt P).irqBtnEn = s.irqBtnEn := rfl
@[simp] theorem State.setBuilt_irqChgEn : (s.setBuilt P).irqChgEn = s.irqChgEn := rfl
@[simp] theorem State.setBuilt_txBusy : (s.setBuilt P).txBusy = s.txBusy := rfl
@[simp] theorem State.setBuilt_txSlot : (s.setBuilt P).txSlot = s.txSlot := rfl
@[simp] theorem State.setBuilt_txPayload : (s.setBuilt P).txPayload = s.txPayload := rfl
@[simp] theorem State.setBuilt_tkNow : (s.setBuilt P).tkNow = s.tkNow := rfl
@[simp] theorem State.setBuilt_tkBtn : (s.setBuilt P).tkBtn = s.tkBtn := rfl
@[simp] theorem State.setBuilt_tkChg : (s.setBuilt P).tkChg = s.tkChg := rfl
@[simp] theorem State.setBuilt_adcEn : (s.setBuilt P).adcEn = s.adcEn := rfl
@[simp] theorem State.setBuilt_ledOff : (s.setBuilt P).ledOff = s.ledOff := rfl
@[simp] theorem State.setBuilt_buttonN : (s.setBuilt P).buttonN = s.buttonN := rfl
@[simp] theorem State.setBuilt_chargerN : (s.setBuilt P).chargerN = s.chargerN := rfl
@[simp] theorem State.setBuilt_rndI : (s.setBuilt P).rndI = s.rndI := rfl
@[simp] theorem State.setBuilt_builtPayload : (s.setBuilt P).builtPayload = P := rfl
@[simp] theorem State.setBuilt_script : (s.setBuilt P).script = s.script := rfl
@[simp] theorem State.setBuilt_freeCount : (s.setBuilt P).freeCount = s.freeCount := rfl
@[simp] theorem State.setBuilt_part : (s.setBuilt P).part = s.part := rfl

end setBuilt

section setSnapshot

variable (s : State p) (n : Millis p) (b c : Bool)

@[simp] theorem State.setSnapshot_ctrlState : (s.setSnapshot n b c).ctrlState = s.ctrlState := rfl
@[simp] theorem State.setSnapshot_txAllowed : (s.setSnapshot n b c).txAllowed = s.txAllowed := rfl
@[simp] theorem State.setSnapshot_nowMs : (s.setSnapshot n b c).nowMs = s.nowMs := rfl
@[simp] theorem State.setSnapshot_idleTs : (s.setSnapshot n b c).idleTs = s.idleTs := rfl
@[simp] theorem State.setSnapshot_cooldownTs : (s.setSnapshot n b c).cooldownTs = s.cooldownTs := rfl
@[simp] theorem State.setSnapshot_irqBtnEn : (s.setSnapshot n b c).irqBtnEn = s.irqBtnEn := rfl
@[simp] theorem State.setSnapshot_irqChgEn : (s.setSnapshot n b c).irqChgEn = s.irqChgEn := rfl
@[simp] theorem State.setSnapshot_txBusy : (s.setSnapshot n b c).txBusy = s.txBusy := rfl
@[simp] theorem State.setSnapshot_txSlot : (s.setSnapshot n b c).txSlot = s.txSlot := rfl
@[simp] theorem State.setSnapshot_txPayload : (s.setSnapshot n b c).txPayload = s.txPayload := rfl
@[simp] theorem State.setSnapshot_tkNow : (s.setSnapshot n b c).tkNow = n := rfl
@[simp] theorem State.setSnapshot_tkBtn : (s.setSnapshot n b c).tkBtn = b := rfl
@[simp] theorem State.setSnapshot_tkChg : (s.setSnapshot n b c).tkChg = c := rfl
@[simp] theorem State.setSnapshot_adcEn : (s.setSnapshot n b c).adcEn = s.adcEn := rfl
@[simp] theorem State.setSnapshot_ledOff : (s.setSnapshot n b c).ledOff = s.ledOff := rfl
@[simp] theorem State.setSnapshot_buttonN : (s.setSnapshot n b c).buttonN = s.buttonN := rfl
@[simp] theorem State.setSnapshot_chargerN : (s.setSnapshot n b c).chargerN = s.chargerN := rfl
@[simp] theorem State.setSnapshot_rndI : (s.setSnapshot n b c).rndI = s.rndI := rfl
@[simp] theorem State.setSnapshot_builtPayload : (s.setSnapshot n b c).builtPayload = s.builtPayload := rfl
@[simp] theorem State.setSnapshot_script : (s.setSnapshot n b c).script = s.script := rfl
@[simp] theorem State.setSnapshot_freeCount : (s.setSnapshot n b c).freeCount = s.freeCount := rfl
@[simp] theorem State.setSnapshot_part : (s.setSnapshot n b c).part = s.part := rfl

end setSnapshot

section setPins

variable (s : State p) (b c : Level)

@[simp] theorem State.setPins_ctrlState : (s.setPins b c).ctrlState = s.ctrlState := rfl
@[simp] theorem State.setPins_txAllowed : (s.setPins b c).txAllowed = s.txAllowed := rfl
@[simp] theorem State.setPins_nowMs : (s.setPins b c).nowMs = s.nowMs := rfl
@[simp] theorem State.setPins_idleTs : (s.setPins b c).idleTs = s.idleTs := rfl
@[simp] theorem State.setPins_cooldownTs : (s.setPins b c).cooldownTs = s.cooldownTs := rfl
@[simp] theorem State.setPins_irqBtnEn : (s.setPins b c).irqBtnEn = s.irqBtnEn := rfl
@[simp] theorem State.setPins_irqChgEn : (s.setPins b c).irqChgEn = s.irqChgEn := rfl
@[simp] theorem State.setPins_txBusy : (s.setPins b c).txBusy = s.txBusy := rfl
@[simp] theorem State.setPins_txSlot : (s.setPins b c).txSlot = s.txSlot := rfl
@[simp] theorem State.setPins_txPayload : (s.setPins b c).txPayload = s.txPayload := rfl
@[simp] theorem State.setPins_tkNow : (s.setPins b c).tkNow = s.tkNow := rfl
@[simp] theorem State.setPins_tkBtn : (s.setPins b c).tkBtn = s.tkBtn := rfl
@[simp] theorem State.setPins_tkChg : (s.setPins b c).tkChg = s.tkChg := rfl
@[simp] theorem State.setPins_adcEn : (s.setPins b c).adcEn = s.adcEn := rfl
@[simp] theorem State.setPins_ledOff : (s.setPins b c).ledOff = s.ledOff := rfl
@[simp] theorem State.setPins_buttonN : (s.setPins b c).buttonN = b := rfl
@[simp] theorem State.setPins_chargerN : (s.setPins b c).chargerN = c := rfl
@[simp] theorem State.setPins_rndI : (s.setPins b c).rndI = s.rndI := rfl
@[simp] theorem State.setPins_builtPayload : (s.setPins b c).builtPayload = s.builtPayload := rfl
@[simp] theorem State.setPins_script : (s.setPins b c).script = s.script := rfl
@[simp] theorem State.setPins_freeCount : (s.setPins b c).freeCount = s.freeCount := rfl
@[simp] theorem State.setPins_part : (s.setPins b c).part = s.part := rfl

end setPins

section setPart

variable (s : State p) (q : Option Part)

@[simp] theorem State.setPart_ctrlState : (s.setPart q).ctrlState = s.ctrlState := rfl
@[simp] theorem State.setPart_txAllowed : (s.setPart q).txAllowed = s.txAllowed := rfl
@[simp] theorem State.setPart_nowMs : (s.setPart q).nowMs = s.nowMs := rfl
@[simp] theorem State.setPart_idleTs : (s.setPart q).idleTs = s.idleTs := rfl
@[simp] theorem State.setPart_cooldownTs : (s.setPart q).cooldownTs = s.cooldownTs := rfl
@[simp] theorem State.setPart_irqBtnEn : (s.setPart q).irqBtnEn = s.irqBtnEn := rfl
@[simp] theorem State.setPart_irqChgEn : (s.setPart q).irqChgEn = s.irqChgEn := rfl
@[simp] theorem State.setPart_txBusy : (s.setPart q).txBusy = s.txBusy := rfl
@[simp] theorem State.setPart_txSlot : (s.setPart q).txSlot = s.txSlot := rfl
@[simp] theorem State.setPart_txPayload : (s.setPart q).txPayload = s.txPayload := rfl
@[simp] theorem State.setPart_tkNow : (s.setPart q).tkNow = s.tkNow := rfl
@[simp] theorem State.setPart_tkBtn : (s.setPart q).tkBtn = s.tkBtn := rfl
@[simp] theorem State.setPart_tkChg : (s.setPart q).tkChg = s.tkChg := rfl
@[simp] theorem State.setPart_adcEn : (s.setPart q).adcEn = s.adcEn := rfl
@[simp] theorem State.setPart_ledOff : (s.setPart q).ledOff = s.ledOff := rfl
@[simp] theorem State.setPart_buttonN : (s.setPart q).buttonN = s.buttonN := rfl
@[simp] theorem State.setPart_chargerN : (s.setPart q).chargerN = s.chargerN := rfl
@[simp] theorem State.setPart_rndI : (s.setPart q).rndI = s.rndI := rfl
@[simp] theorem State.setPart_builtPayload : (s.setPart q).builtPayload = s.builtPayload := rfl
@[simp] theorem State.setPart_script : (s.setPart q).script = s.script := rfl
@[simp] theorem State.setPart_freeCount : (s.setPart q).freeCount = s.freeCount := rfl
@[simp] theorem State.setPart_part : (s.setPart q).part = q := rfl

end setPart

section feed

variable (s : State p) (rest : List Stimulus) (rnd : BitVec 8)

@[simp] theorem State.feed_ctrlState : (s.feed rest rnd).ctrlState = s.ctrlState := rfl
@[simp] theorem State.feed_txAllowed : (s.feed rest rnd).txAllowed = s.txAllowed := rfl
@[simp] theorem State.feed_nowMs : (s.feed rest rnd).nowMs = s.nowMs := rfl
@[simp] theorem State.feed_idleTs : (s.feed rest rnd).idleTs = s.idleTs := rfl
@[simp] theorem State.feed_cooldownTs : (s.feed rest rnd).cooldownTs = s.cooldownTs := rfl
@[simp] theorem State.feed_irqBtnEn : (s.feed rest rnd).irqBtnEn = s.irqBtnEn := rfl
@[simp] theorem State.feed_irqChgEn : (s.feed rest rnd).irqChgEn = s.irqChgEn := rfl
@[simp] theorem State.feed_txBusy : (s.feed rest rnd).txBusy = s.txBusy := rfl
@[simp] theorem State.feed_txSlot : (s.feed rest rnd).txSlot = s.txSlot := rfl
@[simp] theorem State.feed_txPayload : (s.feed rest rnd).txPayload = s.txPayload := rfl
@[simp] theorem State.feed_tkNow : (s.feed rest rnd).tkNow = s.tkNow := rfl
@[simp] theorem State.feed_tkBtn : (s.feed rest rnd).tkBtn = s.tkBtn := rfl
@[simp] theorem State.feed_tkChg : (s.feed rest rnd).tkChg = s.tkChg := rfl
@[simp] theorem State.feed_adcEn : (s.feed rest rnd).adcEn = s.adcEn := rfl
@[simp] theorem State.feed_ledOff : (s.feed rest rnd).ledOff = s.ledOff := rfl
@[simp] theorem State.feed_buttonN : (s.feed rest rnd).buttonN = s.buttonN := rfl
@[simp] theorem State.feed_chargerN : (s.feed rest rnd).chargerN = s.chargerN := rfl
@[simp] theorem State.feed_rndI : (s.feed rest rnd).rndI = rnd := rfl
@[simp] theorem State.feed_builtPayload : (s.feed rest rnd).builtPayload = s.builtPayload := rfl
@[simp] theorem State.feed_script : (s.feed rest rnd).script = rest := rfl
@[simp] theorem State.feed_freeCount : (s.feed rest rnd).freeCount = s.freeCount := rfl
@[simp] theorem State.feed_part : (s.feed rest rnd).part = s.part := rfl

end feed

end Sys2Proof.Machine
end

