-- ==== Sys2Proof/Laws/Ops.lean ====
section
/-! SUPPORT. What each shared operation can do, said once, for a block with any parameters where the operation is: the answers of a meaning, the effects as record updates and case lemmas, exec as one equation, and step by the offer it takes. -/

namespace Sys2Proof.Machine

open Sys2Proof.Config (Params params)

variable {p : Params}

/-! Lengths at the defaults (R8). -/

theorem preT_params : preT params = 24 := rfl
theorem dataT_params : dataT params = 198 := rfl
theorem repT_params : repT params = 271 := rfl
theorem burstT_params : burstT params = 1084 := rfl
theorem syncT_params : params.syncT = 10 := rfl
theorem gapT_params : params.gapT = 39 := rfl
theorem cooldownMs_params : params.cooldownMs = 1000 := rfl
theorem idleMs_params : params.idleMs = 1000 := rfl
theorem tw_params : params.tw = 32 := rfl
theorem slotWidth_params : slotWidth params = 11 := rfl

/-! Lengths at any parameters (R8, R28). -/

theorem repT_pos (p : Params) : 0 < repT p := by
  simp only [repT, dataT, Config.payloadBits, Config.bitT]
  omega

theorem burstT_pos (h : 0 < p.reps) : 0 < burstT p := Nat.mul_pos h (repT_pos p)

/-- Every slot of a burst fits `tx_slot` (R28). -/
theorem lt_two_pow_slotWidth {n : Nat} (h : n < burstT p) : n < 2 ^ slotWidth p :=
  Nat.lt_of_le_of_lt (by omega : n ≤ burstT p - 1) Nat.lt_log2_self

/-- Moving `tx_slot` inside a burst does not wrap (R32). -/
theorem slot_add_toNat {x : Slot p} {n : Nat} (h : x.toNat + n < burstT p) :
    (x + BitVec.ofNat _ n).toNat = x.toNat + n := by
  have hn : n < 2 ^ slotWidth p := lt_two_pow_slotWidth (by omega)
  rw [BitVec.toNat_add, BitVec.toNat_ofNat, Nat.mod_eq_of_lt hn, Nat.mod_eq_of_lt (lt_two_pow_slotWidth h)]

theorem slot_succ_toNat {x : Slot p} (h : x.toNat + 1 < burstT p) : (x + 1).toNat = x.toNat + 1 := slot_add_toNat h

/-! The conditions, as propositions; later proofs cite these and do not unfold the Bools. -/

theorem elapsedAtLeast_iff {w : Nat} {ts n : BitVec w} {k : Nat} : elapsedAtLeast ts n k = true ↔ k ≤ (n - ts).toNat :=
  decide_eq_true_iff

theorem awake_iff {s : State p} : s.awake = true ↔ s.IsAwake := by
  simp [State.awake]

theorem reservedState_eq_false_iff {s : State p} : s.reservedState = false ↔ s.Legal := by
  simp [State.reservedState, State.Legal]

theorem reservedState_eq_true_iff {s : State p} : s.reservedState = true ↔ ¬ s.Legal := by
  rw [← reservedState_eq_false_iff]
  simp

theorem idleDue_iff {s : State p} :
    s.idleDue = true ↔ p.idleMs ≤ (s.tkNow - s.idleTs).toNat := elapsedAtLeast_iff

theorem inputActive_iff {s : State p} : s.inputActive = true ↔ s.tkBtn = true ∨ s.tkChg = true := by
  simp [State.inputActive]

theorem tickEnabled_iff {s : State p} : s.tickEnabled = true ↔ s.IsAwake ∧ s.txBusy = false := by
  simp [State.tickEnabled, awake_iff]

theorem wakeEnabled_iff {s : State p} : s.wakeEnabled = true ↔ s.ctrlState = .sleeping ∧ s.WakeRequested := by
  simp [State.wakeEnabled, State.btnRequests, State.chgRequests]

theorem txStartPlace_iff {s : State p} :
    s.txStartPlace = true ↔ s.IsAwake ∧ s.txBusy = false ∧ s.txAllowed = true := by
  simp [State.txStartPlace, awake_iff, and_assoc]

theorem txEndPlace_iff {s : State p} :
    s.txEndPlace = true ↔ s.txBusy = true ∧ s.txSlot.toNat + 1 = burstT p := by
  simp [State.txEndPlace, State.atLastSlot]

theorem tickBPlace_iff {s : State p} :
    s.tickBPlace = true ↔ s.IsAwake ∧ s.txBusy = false ∧ s.txAllowed = false := by
  simp [State.tickBPlace, awake_iff, and_assoc]

theorem sleepEnterPlace_iff {s : State p} :
    s.sleepEnterPlace = true ↔
      (s.tkBtn = false ∧ s.tkChg = false ∧ p.idleMs ≤ (s.tkNow - s.idleTs).toNat) ∧
        s.IsAwake ∧ s.txBusy = false ∧ s.txAllowed = false := by
  simp only [State.sleepEnterPlace, Bool.and_eq_true, idleDue_iff, tickBPlace_iff]
  simp [State.inputActive, and_assoc]

theorem atSymbol_iff {s : State p} {i : Instr} :
    s.atSymbol i = true ↔
      s.txBusy = true ∧ symbolStart p s.txPayload (s.txSlot.toNat % repT p) = some i := by
  simp only [State.atSymbol, Bool.and_eq_true, decide_eq_true_iff]
  rfl

theorem legal_of_awake_idle {s : State p} (h : s.IsAwake) (hb : s.txBusy = false) : s.Legal := by
  rcases h with h | h <;> simp [State.Legal, h, hb]

/-! The answers of a meaning. -/

theorem guarded_eq_next_iff {s : State p} {e : Bool} {t u : State p} :
    guarded s e t = .next u ↔ s.reservedState = false ∧ e = true ∧ u = t := by
  unfold guarded
  cases s.reservedState <;> cases e <;> simp [@eq_comm _ u t]

theorem guarded_eq_fault_iff {s : State p} {e : Bool} {t : State p} {r : Fault} :
    guarded s e t = .fault r ↔ s.reservedState = true ∧ r = .reservedState := by
  unfold guarded
  cases s.reservedState <;> cases e <;> simp

theorem guarded_eq_refused_iff {s : State p} {e : Bool} {t : State p} {r : Refusal} :
    guarded s e t = .refused r ↔ s.reservedState = false ∧ e = false ∧ r = .notEnabled := by
  unfold guarded
  cases s.reservedState <;> cases e <;> simp [@eq_comm _ r .notEnabled]

theorem guarded_next {s : State p} {e : Bool} (hr : s.reservedState = false) (he : e = true) (t : State p) :
    guarded s e t = .next t := guarded_eq_next_iff.2 ⟨hr, he, rfl⟩

/-! perform, for any parameters; exec is it at the defaults. -/

theorem perform_eq_guarded {i : Instr} (h : i ≠ .reset) (s : State p) :
    s.perform i = guarded s (s.enabled i) (s.effect i) := if_neg h

@[simp] theorem perform_reset (s : State p) : s.perform .reset = .next s.doReset := rfl

/-- When an operation answers a next state, it is the operation's effect, at a state where it can occur. -/
theorem perform_eq_next_iff {i : Instr} {s t : State p} :
    s.perform i = .next t ↔ (i = .reset ∨ s.reservedState = false) ∧ s.enabled i = true ∧ t = s.effect i := by
  by_cases h : i = .reset
  · subst h
    simp [State.enabled, State.effect, @eq_comm _ t s.doReset]
  · simp [perform_eq_guarded h, guarded_eq_next_iff, h]

theorem perform_eq_fault_iff {i : Instr} {s : State p} {r : Fault} :
    s.perform i = .fault r ↔ i ≠ .reset ∧ s.reservedState = true ∧ r = .reservedState := by
  by_cases h : i = .reset
  · subst h
    simp
  · simp [perform_eq_guarded h, guarded_eq_fault_iff, h]

theorem perform_eq_refused_iff {i : Instr} {s : State p} {r : Refusal} :
    s.perform i = .refused r ↔
      i ≠ .reset ∧ s.reservedState = false ∧ s.enabled i = false ∧ r = .notEnabled := by
  by_cases h : i = .reset
  · subst h
    simp
  · simp [perform_eq_guarded h, guarded_eq_refused_iff, h]

/-- At a legal state, an operation that can occur answers its effect. -/
theorem perform_next {i : Instr} {s t : State p} (h : s.Legal) (he : s.enabled i = true) (ht : t = s.effect i) :
    s.perform i = .next t :=
  perform_eq_next_iff.2 ⟨.inr (reservedState_eq_false_iff.2 h), he, ht⟩

/-- Each meaning is `perform` of its row. -/
theorem exec_eq (i : Instr) (s : State) : exec i s = s.perform i := by
  cases i <;> rfl

@[simp] theorem exec_reset (s : State) : exec .reset s = .next s.doReset := rfl

theorem exec_eq_next_iff {i : Instr} {s t : State} :
    exec i s = .next t ↔ (i = .reset ∨ s.reservedState = false) ∧ s.enabled i = true ∧ t = s.effect i := by
  rw [exec_eq, perform_eq_next_iff]

theorem exec_eq_fault_iff {i : Instr} {s : State} {r : Fault} :
    exec i s = .fault r ↔ i ≠ .reset ∧ s.reservedState = true ∧ r = .reservedState := by
  rw [exec_eq, perform_eq_fault_iff]

theorem exec_eq_refused_iff {i : Instr} {s : State} {r : Refusal} :
    exec i s = .refused r ↔
      i ≠ .reset ∧ s.reservedState = false ∧ s.enabled i = false ∧ r = .notEnabled := by
  rw [exec_eq, perform_eq_refused_iff]

theorem exec_next {i : Instr} {s t : State} (h : s.Legal) (he : s.enabled i = true) (ht : t = s.effect i) :
    exec i s = .next t := by
  rw [exec_eq, perform_next h he ht]

/-- The invariants rule the reserved codes out (R182, R42). -/
theorem State.BlockInv.legal {s : State p} (h : s.BlockInv) : s.Legal := ⟨h.notReserved, fun hb => (h.busyAwake hb).2⟩

/-! Straight-line effects as record updates. -/

theorem msTick_eq (s : State p) : s.msTick = { s with nowMs := s.nowMs + 1 } := rfl

theorem buildPayload_eq (s : State p) : s.buildPayload = { s with builtPayload := payloadOf s.rndI } := rfl

theorem txStart_eq (s : State p) : s.txStart =
    { s with builtPayload := payloadOf s.rndI, txPayload := payloadOf s.rndI, txSlot := 0, txBusy := true } := rfl

theorem sleepEnter_eq (s : State p) : s.sleepEnter =
    { s with adcEn := false, ledOff := true, irqBtnEn := true, irqChgEn := true, ctrlState := .sleeping } := rfl

theorem takeWake_eq (s : State p) : s.takeWake =
    { s with
      adcEn := true, ledOff := false, idleTs := s.nowMs, cooldownTs := s.nowMs, txAllowed := true
      irqBtnEn := false, irqChgEn := false, ctrlState := .awakeIdle } := rfl

theorem takeSnapshot_eq (s : State p) :
    s.takeSnapshot = { s with tkNow := s.nowMs, tkBtn := s.btn, tkChg := s.chg } := rfl

theorem setPins_eq (s : State p) (b c : Level) : s.setPins b c = { s with buttonN := b, chargerN := c } := rfl

/-! Effects with cases. -/

/-- TICK_B takes one of its three ways (R155). -/
theorem tickB_cases (s : State p) :
    (s.inputActive = true ∧ s.tickB = { s with idleTs := s.tkNow, ctrlState := .awakeActive }) ∨
    (s.inputActive = false ∧ s.idleDue = true ∧ s.tickB = s.sleepEnter) ∨
    (s.inputActive = false ∧ s.idleDue = false ∧ s.tickB = { s with ctrlState := .awakeIdle }) := by
  unfold State.tickB
  by_cases h : s.inputActive = true
  · exact .inl ⟨h, by rw [if_pos h]; rfl⟩
  · by_cases h' : s.idleDue = true
    · exact .inr (.inl ⟨by simpa using h, h', by rw [if_neg h, if_pos h']⟩)
    · exact .inr (.inr ⟨by simpa using h, by simpa using h', by rw [if_neg h, if_neg h']; rfl⟩)

/-- What TICK_B never writes (R155). -/
theorem tickB_keeps (s : State p) :
    s.tickB.nowMs = s.nowMs ∧ s.tickB.cooldownTs = s.cooldownTs ∧ s.tickB.txAllowed = s.txAllowed ∧
    s.tickB.txBusy = s.txBusy ∧ s.tickB.txSlot = s.txSlot ∧ s.tickB.txPayload = s.txPayload ∧
    s.tickB.tkNow = s.tkNow ∧ s.tickB.tkBtn = s.tkBtn ∧ s.tickB.tkChg = s.tkChg := by
  rcases tickB_cases s with ⟨_, e⟩ | ⟨_, _, e⟩ | ⟨_, _, e⟩ <;> rw [e] <;>
    exact ⟨rfl, rfl, rfl, rfl, rfl, rfl, rfl, rfl, rfl⟩

/-- What TX_END leaves of the generator's registers and the time (R128). -/
theorem txEnd_fields (s : State p) :
    s.txEnd.txBusy = false ∧ s.txEnd.txAllowed = false ∧ s.txEnd.txSlot = s.txSlot ∧
    s.txEnd.txPayload = s.txPayload ∧ s.txEnd.nowMs = s.nowMs ∧ s.txEnd.cooldownTs = s.cooldownTs := by
  obtain ⟨h1, h2, h3, h4, h5, h6, -⟩ := tickB_keeps ((s.setBusy false).setPermit false)
  exact ⟨h4, h3, h5, h6, h1, h2⟩

/-- TX_UNIT moves to the next slot or ends the burst (R127). -/
theorem txUnit_cases (s : State p) :
    (s.txSlot.toNat + 1 < burstT p ∧ s.txUnit = { s with txSlot := s.txSlot + 1 }) ∨
    (burstT p ≤ s.txSlot.toNat + 1 ∧ s.txUnit = s.txEnd) := by
  unfold State.txUnit
  by_cases h : s.txSlot.toNat + 1 < burstT p
  · exact .inl ⟨h, by rw [if_pos h]; rfl⟩
  · exact .inr ⟨by omega, by rw [if_neg h]⟩

/-- The heartbeat grants, or changes nothing (R153). -/
theorem heartbeat_cases (s : State p) :
    (s.heartbeatDue = true ∧ s.heartbeat = { s with txAllowed := true, cooldownTs := s.tkNow }) ∨
    (s.heartbeatDue = false ∧ s.heartbeat = s) := by
  unfold State.heartbeat
  by_cases h : s.heartbeatDue = true
  · exact .inl ⟨h, by rw [if_pos h]; rfl⟩
  · exact .inr ⟨by simpa using h, by rw [if_neg h]⟩

/-- The heartbeat condition on the snapshot a tick takes (R152, R153). -/
theorem takeSnapshot_heartbeatDue (s : State p) :
    s.takeSnapshot.heartbeatDue = decide s.HeartbeatHolds := by
  rw [Bool.eq_iff_iff]
  simp only [State.heartbeatDue, State.takeSnapshot, State.chg, State.setSnapshot_tkChg, State.setSnapshot_cooldownTs,
    State.setSnapshot_tkNow, Bool.and_eq_true, elapsedAtLeast_iff, decide_eq_true_iff, Bool.not_eq_true']

/-- TICK as one of two shapes: with a permit at hand after the heartbeat step it starts a burst, else it finishes (R152 to R154). -/
theorem tick_cases (s : State p) :
    (s.HeartbeatHolds ∧
      s.tick = ({ s.takeSnapshot with txAllowed := true, cooldownTs := s.nowMs } : State p).txStart) ∨
    (¬ s.HeartbeatHolds ∧ s.txAllowed = true ∧ s.tick = s.takeSnapshot.txStart) ∨
    (¬ s.HeartbeatHolds ∧ s.txAllowed = false ∧ s.tick = s.takeSnapshot.tickB) := by
  unfold State.tick
  rcases heartbeat_cases s.takeSnapshot with ⟨h, e⟩ | ⟨h, e⟩ <;> rw [takeSnapshot_heartbeatDue] at h
  · exact .inl ⟨of_decide_eq_true h, by rw [e]; rfl⟩
  · have h := of_decide_eq_false h
    rw [e]
    cases ha : s.txAllowed
    · exact .inr (.inr ⟨h, rfl, by simp [State.transmitOrFinish, State.takeSnapshot, ha]⟩)
    · exact .inr (.inl ⟨h, rfl, by simp [State.transmitOrFinish, State.takeSnapshot, ha]⟩)

/-! Several TX_UNITs. -/

@[simp] theorem txUnits_zero (s : State p) : State.txUnits 0 s = s := rfl

@[simp] theorem txUnits_succ (n : Nat) (s : State p) : State.txUnits (n + 1) s = State.txUnits n s.txUnit := rfl

theorem txUnits_add (m n : Nat) (s : State p) :
    State.txUnits (m + n) s = State.txUnits n (State.txUnits m s) := by
  induction m generalizing s with
  | zero => simp
  | succ m ih => simpa [Nat.succ_add] using ih s.txUnit

/-- Before the burst's end, `n` TX_UNITs move the slot by `n` and change nothing else. -/
theorem txUnits_inside (n : Nat) (s : State p) (h : s.txSlot.toNat + n < burstT p) :
    State.txUnits n s = { s with txSlot := s.txSlot + BitVec.ofNat _ n } := by
  induction n generalizing s with
  | zero => simp
  | succ n ih =>
    rcases txUnit_cases s with ⟨h1, e⟩ | ⟨h', _⟩
    · have hs : (s.txSlot + 1).toNat = s.txSlot.toNat + 1 := slot_succ_toNat h1
      rw [txUnits_succ, e, ih _ (by simp only [hs]; omega)]
      congr 1
      simp only [BitVec.add_assoc]
      congr 1
      rw [Nat.add_comm n 1, BitVec.ofNat_add]
      rfl
    · omega

/-- The TX_UNITs up to and with the one that closes the last slot end the burst (R127, R128). -/
theorem txUnits_to_end (n : Nat) (s : State p) (hn : 0 < n) (h : s.txSlot.toNat + n = burstT p) :
    State.txUnits n s = ({ s with txSlot := BitVec.ofNat _ (burstT p - 1) } : State p).txEnd := by
  obtain ⟨m, rfl⟩ : ∃ m, n = m + 1 := ⟨n - 1, by omega⟩
  rw [txUnits_add m 1 s, txUnits_inside m s (by omega), txUnits_succ, txUnits_zero]
  have hs : s.txSlot + BitVec.ofNat _ m = BitVec.ofNat _ (burstT p - 1) := by
    have := slot_add_toNat (x := s.txSlot) (n := m) (by omega)
    apply BitVec.eq_of_toNat_eq
    rw [this, BitVec.toNat_ofNat, Nat.mod_eq_of_lt (lt_two_pow_slotWidth (by omega))]
    omega
  rw [hs]
  rcases txUnit_cases ({ s with txSlot := BitVec.ofNat _ (burstT p - 1) } : State p) with ⟨h', _⟩ | ⟨_, e⟩
  · rw [BitVec.toNat_ofNat, Nat.mod_eq_of_lt (lt_two_pow_slotWidth (by omega))] at h'
    omega
  · exact e

/-! Wire symbols. -/

/-- A symbol that begins at slot `r` of a repetition is a wire symbol, lies within the repetition, and ends it if it is the PKT_GAP (R75). -/
theorem symbolStart_bounds {P : Payload} {r : Nat} {i : Instr} (h : symbolStart p P r = some i) :
    0 < (symbolLevels p i).length ∧ r + (symbolLevels p i).length ≤ repT p ∧ i.kind = .symbol ∧
    (i = .pktGap → r + (symbolLevels p i).length = repT p) ∧
    (0 < p.gapT → r + (symbolLevels p i).length = repT p → i = .pktGap) := by
  have hpre : preT p = 2 * p.preCycles := rfl
  have hdata : dataT p = (64 + p.trailerBits) * 3 := rfl
  have hrep : repT p = preT p + p.syncT + dataT p + p.gapT := rfl
  unfold symbolStart at h
  simp only [Config.bitT, Config.payloadBits] at h
  split at h
  · split at h <;> cases h
    simp [symbolLevels, Instr.kind]
    omega
  · split at h
    · cases h
      simp [symbolLevels, Instr.kind]
      omega
    · split at h
      · cases h
      · split at h
        · split at h
          · split at h
            · split at h <;> cases h <;> simp [symbolLevels, Instr.kind] <;> omega
            · cases h
              simp [symbolLevels, Instr.kind]
              omega
          · cases h
        · split at h
          · cases h
            simp [symbolLevels, Instr.kind]
            omega
          · cases h

theorem enabled_symbol {i : Instr} (h : i.kind = .symbol) (s : State p) : s.enabled i = s.atSymbol i := by
  cases i <;> first | rfl | cases h

theorem effect_symbol {i : Instr} (h : i.kind = .symbol) (s : State p) : s.effect i = s.sendUnits i := by
  cases i <;> first | rfl | cases h

/-- A symbol that begins in a burst ends within it (R75). -/
theorem symbol_within_burst {s : State p} {i : Instr} (hs : s.txSlot.toNat < burstT p)
    (h : symbolStart p s.txPayload (s.txSlot.toNat % repT p) = some i) :
    s.txSlot.toNat + (symbolLevels p i).length ≤ burstT p := by
  obtain ⟨-, hle, -⟩ := symbolStart_bounds h
  have hb : burstT p = repT p * p.reps := Nat.mul_comm _ _
  have hd := Nat.div_add_mod s.txSlot.toNat (repT p)
  have hq : s.txSlot.toNat / repT p < p.reps := Nat.div_lt_of_lt_mul (hb ▸ hs)
  have hm : repT p * (s.txSlot.toNat / repT p + 1) ≤ repT p * p.reps := Nat.mul_le_mul_left _ hq
  rw [Nat.mul_add, Nat.mul_one] at hm
  omega

/-- What a wire symbol can do, for any parameters: move the slot by its length, or, where it ends with the burst, end it (log 6). -/
theorem perform_symbol_cases {i : Instr} {s t : State p} (hk : i.kind = .symbol) (h : s.perform i = .next t) :
    s.Legal ∧ s.txBusy = true ∧
      ((s.txSlot.toNat + (symbolLevels p i).length < burstT p ∧
          t = { s with txSlot := s.txSlot + BitVec.ofNat _ (symbolLevels p i).length }) ∨
        (s.txSlot.toNat + (symbolLevels p i).length = burstT p ∧ (0 < p.gapT → i = .pktGap) ∧
          t = ({ s with txSlot := BitVec.ofNat _ (burstT p - 1) } : State p).txEnd)) := by
  obtain ⟨hl, he, ht⟩ := perform_eq_next_iff.1 h
  rw [enabled_symbol hk, atSymbol_iff] at he
  rw [effect_symbol hk] at ht
  have hl : s.Legal := by
    rcases hl with rfl | hl
    · cases hk
    · exact reservedState_eq_false_iff.1 hl
  obtain ⟨hp, hle, -, -, hg⟩ := symbolStart_bounds he.2
  have hlt := hl.2 he.1
  have hin := symbol_within_burst hlt he.2
  refine ⟨hl, he.1, ?_⟩
  by_cases hc : s.txSlot.toNat + (symbolLevels p i).length < burstT p
  · exact .inl ⟨hc, by rw [ht, State.sendUnits, txUnits_inside _ _ hc]⟩
  · refine .inr ⟨by omega, fun hgap => hg hgap ?_, by rw [ht, State.sendUnits, txUnits_to_end _ _ hp (by omega)]⟩
    by_contra hne
    have hb : burstT p = repT p * p.reps := Nat.mul_comm _ _
    have hd := Nat.div_add_mod s.txSlot.toNat (repT p)
    have hq : s.txSlot.toNat / repT p < p.reps := Nat.div_lt_of_lt_mul (hb ▸ hlt)
    have hm : repT p * (s.txSlot.toNat / repT p + 1) ≤ repT p * p.reps := Nat.mul_le_mul_left _ hq
    rw [Nat.mul_add, Nat.mul_one] at hm
    omega

/-- At the defaults the symbol that ends a burst is the PKT_GAP. -/
theorem exec_symbol_cases {i : Instr} {s t : State} (hk : i.kind = .symbol) (h : exec i s = .next t) :
    s.Legal ∧ s.txBusy = true ∧
      ((s.txSlot.toNat + (symbolLevels params i).length < 1084 ∧
          t = { s with txSlot := s.txSlot + BitVec.ofNat _ (symbolLevels params i).length }) ∨
        (i = .pktGap ∧ s.txSlot.toNat + 39 = 1084 ∧ t = ({ s with txSlot := 1083 } : State).txEnd)) := by
  obtain ⟨hl, hb, h | ⟨h, hi, ht⟩⟩ := perform_symbol_cases hk ((exec_eq i s).symm.trans h)
  · exact ⟨hl, hb, .inl h⟩
  · obtain rfl := hi (by decide)
    exact ⟨hl, hb, .inr ⟨rfl, h, ht⟩⟩

/-! Sequences of events. -/

theorem execAll_append (es fs : List Instr) (s : State) :
    execAll (es ++ fs) s = match execAll es s with
      | .next t => execAll fs t
      | .fault r => .fault r
      | .refused r => .refused r := by
  induction es generalizing s with
  | nil => rfl
  | cons i es ih =>
    simp only [List.cons_append, execAll]
    cases exec i s with
    | next t => exact ih t
    | fault r => rfl
    | refused r => rfl

/-! What is under way: no operation leaves a part to run (R54, R58, R90; logs 5 and 6). -/

theorem tickB_part (s : State p) : s.tickB.part = s.part := by
  rcases tickB_cases s with ⟨_, e⟩ | ⟨_, _, e⟩ | ⟨_, _, e⟩ <;> simp [e, sleepEnter_eq]

theorem txUnit_part (s : State p) : s.txUnit.part = s.part := by
  rcases txUnit_cases s with ⟨_, e⟩ | ⟨_, e⟩
  · rw [e]
  · exact e ▸ tickB_part _

theorem txUnits_part (n : Nat) (s : State p) : (State.txUnits n s).part = s.part := by
  induction n generalizing s with
  | zero => rfl
  | succ n ih => rw [txUnits_succ, ih, txUnit_part]

theorem tick_part (s : State p) : s.tick.part = s.part := by
  rcases tick_cases s with ⟨_, e⟩ | ⟨_, _, e⟩ | ⟨_, _, e⟩ <;> rw [e]
  · rfl
  · rfl
  · exact tickB_part _

theorem effect_part (i : Instr) (s : State p) : (s.effect i).part = if i = .reset then none else s.part := by
  cases i
  case tick => exact tick_part s
  case txUnit => exact txUnit_part s
  case txEnd => exact tickB_part _
  case tickB => exact tickB_part s
  case preCycle => exact txUnits_part _ s
  case syncGap => exact txUnits_part _ s
  case bit0 => exact txUnits_part _ s
  case bit1 => exact txUnits_part _ s
  case trailerBit => exact txUnits_part _ s
  case pktGap => exact txUnits_part _ s
  all_goals rfl

/-! What the machine takes next. -/

/-- A part that is to run next, else the environment's next word, else nothing. -/
theorem fetch_cases (s : State p) :
    (∃ q, s.part = some q ∧ s.fetch = some (q.offer, s.setPart none)) ∨
    (s.part = none ∧ s.script = [] ∧ s.fetch = none) ∨
    ∃ st rest, s.part = none ∧ s.script = st :: rest ∧ s.fetch = some (.outside st.word, s.feed rest st.rnd) := by
  unfold State.fetch
  cases s.part with
  | some w => exact .inl ⟨w, rfl, rfl⟩
  | none =>
    cases s.script with
    | nil => exact .inr (.inl ⟨rfl, rfl, rfl⟩)
    | cons st rest => exact .inr (.inr ⟨st, rest, rfl, rfl, rfl⟩)

/-- Whatever is taken, nothing is left under way. -/
theorem fetch_part {s u : State p} {o : Offer} (h : s.fetch = some (o, u)) : u.part = none := by
  rcases fetch_cases s with ⟨w, _, e⟩ | ⟨_, _, e⟩ | ⟨st, rest, hp, _, e⟩ <;> rw [e] at h <;> cases h
  · rfl
  · exact hp

/-- Taking changes nothing but the script, `rnd_i` and what is under way. -/
theorem fetch_keeps {s u : State p} {o : Offer} (h : s.fetch = some (o, u)) :
    u = { s with script := u.script, rndI := u.rndI, part := none } := by
  rcases fetch_cases s with ⟨w, _, e⟩ | ⟨_, _, e⟩ | ⟨st, rest, hp, _, e⟩ <;> rw [e] at h <;> cases h
  · rfl
  · rw [← hp]
    rfl

/-- What the environment offers is an external event or has no meaning (R90, R91). -/
theorem decodeOutside_kind {w : BitVec 8} {i : Instr} (h : decodeOutside w = .ok i) : i.kind = .external := by
  unfold decodeOutside at h
  split at h
  · split at h
    · cases h
      assumption
    · cases h
  · cases h

/-! The step, by what it takes, for any parameters and any way to run the operation. -/

theorem stepBy_of_none {run : Instr → State p → Outcome p} {s : State p} (h : s.fetch = none) :
    stepBy run s = .next s := by
  simp [stepBy, h]

theorem stepBy_of_fetch {run : Instr → State p → Outcome p} {s u : State p} {o : Offer} (h : s.fetch = some (o, u)) :
    stepBy run s = match decode p u.inTrailer o with
      | .ok i => dropIfNotEnabled u (run i u)
      | .error r => .refused (.reservedEvent r) := by
  unfold stepBy
  exact h ▸ rfl

/-- Everything a step that goes on can be: waiting, an operation's effect, or an offer dropped (R12). -/
theorem advance_next_cases {s t : State p} (h : s.advance = .next t) :
    (s.fetch = none ∧ t = s) ∨
    ∃ o u, s.fetch = some (o, u) ∧
      ((∃ i, decode p u.inTrailer o = .ok i ∧ u.perform i = .next t) ∨
        ((∃ i, decode p u.inTrailer o = .ok i ∧ u.perform i = .refused .notEnabled) ∧ t = u)) := by
  unfold State.advance at h
  rcases hf : s.fetch with _ | ⟨o, u⟩
  · exact .inl ⟨rfl, by simpa [stepBy_of_none hf, eq_comm] using h⟩
  · refine .inr ⟨o, u, rfl, ?_⟩
    rw [stepBy_of_fetch hf] at h
    cases hd : decode p u.inTrailer o with
    | error r => simp [hd] at h
    | ok i =>
      simp only [hd] at h
      cases he : u.perform i with
      | next v => exact .inl ⟨i, rfl, by simpa [he, dropIfNotEnabled] using h⟩
      | fault r => simp [he, dropIfNotEnabled] at h
      | refused r =>
        obtain ⟨-, -, -, rfl⟩ := perform_eq_refused_iff.1 he
        refine .inr ⟨⟨i, rfl, he⟩, ?_⟩
        simpa [he, dropIfNotEnabled, eq_comm] using h

/-! The step at the defaults. -/

theorem step_eq (s : State) : step s = s.advance := by
  rw [step, State.advance, funext₂ exec_eq]

theorem step_of_none {s : State} (h : s.fetch = none) : step s = .next s := stepBy_of_none h

theorem step_of_fetch {s u : State} {o : Offer} (h : s.fetch = some (o, u)) :
    step s = match decode params u.inTrailer o with
      | .ok i => dropIfNotEnabled u (exec i u)
      | .error r => .refused (.reservedEvent r) := stepBy_of_fetch h

theorem step_next_cases {s t : State} (h : step s = .next t) :
    (s.fetch = none ∧ t = s) ∨
    ∃ o u, s.fetch = some (o, u) ∧
      ((∃ i, decode params u.inTrailer o = .ok i ∧ exec i u = .next t) ∨
        ((∃ i, decode params u.inTrailer o = .ok i ∧ exec i u = .refused .notEnabled) ∧ t = u)) := by
  simp only [exec_eq]
  exact advance_next_cases ((step_eq s).symm.trans h)

/-- A table row's word is the next thing taken, and nothing else changes. -/
theorem withFetchWord_fetch {s : State} {nbits w : Nat} {o : Offer} (h : tableOffer nbits w = some o) :
    (s.withFetchWord nbits w).fetch = some (o, s.setPart none) := by
  unfold State.withFetchWord State.offerWord
  rw [h]
  cases o <;> rfl

end Sys2Proof.Machine
end

