-- ==== Sys2Proof/Laws/Payload.lean ====
section
/-! SUPPORT. The payload bit by bit (30_encoding.md R70 to R73). -/

namespace Sys2Proof.Machine

/-- The multiplication of R71 as two copies. -/
theorem mul_buttonSpread :
    ∀ code : BitVec 4, code.setWidth 64 * buttonSpread = code.setWidth 64 <<< 32 ||| code.setWidth 64 := by
  decide

/-- Bit `i` of a payload, by field. -/
theorem packPayload_getLsbD (upper : BitVec 28) (code : BitVec 4) (id : BitVec 28) (i : Nat) (hi : i < 64) :
    (packPayload upper code id).getLsbD i =
      if i < 4 then code.getLsbD i
      else if i < 32 then id.getLsbD (i - 4)
      else if i < 36 then code.getLsbD (i - 32)
      else upper.getLsbD (i - 36) := by
  unfold packPayload
  rw [mul_buttonSpread]
  have low : 4 ≤ i → code.getLsbD i = false := fun h => BitVec.getLsbD_of_ge _ _ (by omega)
  have high : 36 ≤ i → code.getLsbD (i - 32) = false := fun h => BitVec.getLsbD_of_ge _ _ (by omega)
  have mid : 32 ≤ i → id.getLsbD (i - 4) = false := fun h => BitVec.getLsbD_of_ge _ _ (by omega)
  simp only [BitVec.getLsbD_or, BitVec.getLsbD_shiftLeft, BitVec.getLsbD_setWidth, hi]
  split
  · simp [show i < 36 by omega, show i < 32 by omega, *]
  · split
    · simp [show i < 36 by omega, show i - 4 < 64 by omega, low (by omega), *]
    · split
      · simp [show i - 32 < 64 by omega, low (by omega), mid (by omega), *]
      · simp [show i - 36 < 64 by omega, low (by omega), mid (by omega), high (by omega), *]

end Sys2Proof.Machine
end

