-- ==== Sys2Proof/Laws/PerInstr.lean ====
section
/-! SUPPORT. Facts of each instruction as syntax: an event has a word and no levels, a wire symbol has levels and no word (30_encoding.md R76, R92). -/

namespace Sys2Proof.Laws.WordOrLevels

/-- The row is an event or a wire symbol, never both. -/
def Statement (i : Instr) : Prop :=
  ((eventWord i).isSome = true ↔ i.kind ≠ .symbol) ∧ (symbolLevels Config.params i = [] ↔ i.kind ≠ .symbol)

theorem reset : Statement .reset := by simp [Statement, eventWord, symbolLevels, Instr.kind]
theorem msTick : Statement .msTick := by simp [Statement, eventWord, symbolLevels, Instr.kind]
theorem tick : Statement .tick := by simp [Statement, eventWord, symbolLevels, Instr.kind]
theorem txUnit : Statement .txUnit := by simp [Statement, eventWord, symbolLevels, Instr.kind]
theorem wake : Statement .wake := by simp [Statement, eventWord, symbolLevels, Instr.kind]
theorem setInputs (buttonN chargerN : Level) : Statement (.setInputs buttonN chargerN) := by
  simp [Statement, eventWord, symbolLevels, Instr.kind]
theorem buildPayload : Statement .buildPayload := by simp [Statement, eventWord, symbolLevels, Instr.kind]
theorem txStart : Statement .txStart := by simp [Statement, eventWord, symbolLevels, Instr.kind]
theorem txEnd : Statement .txEnd := by simp [Statement, eventWord, symbolLevels, Instr.kind]
theorem tickB : Statement .tickB := by simp [Statement, eventWord, symbolLevels, Instr.kind]
theorem sleepEnter : Statement .sleepEnter := by simp [Statement, eventWord, symbolLevels, Instr.kind]
theorem preCycle : Statement .preCycle := by simp [Statement, eventWord, symbolLevels, Instr.kind]
theorem syncGap : Statement .syncGap := by simp [Statement, eventWord, symbolLevels, Instr.kind, Machine.syncT_params]
theorem bit0 : Statement .bit0 := by simp [Statement, eventWord, symbolLevels, Instr.kind]
theorem bit1 : Statement .bit1 := by simp [Statement, eventWord, symbolLevels, Instr.kind]
theorem trailerBit : Statement .trailerBit := by simp [Statement, eventWord, symbolLevels, Instr.kind]
theorem pktGap : Statement .pktGap := by simp [Statement, eventWord, symbolLevels, Instr.kind, Machine.gapT_params]

end Sys2Proof.Laws.WordOrLevels
end

