-- ==== Sys2Proof/Laws/Wire.lean ====
section
/-! SUPPORT. The level function region by region (30_encoding.md R78), and the list facts that take a repetition apart. -/

namespace Sys2Proof.Machine

open Sys2Proof.Config (Params)

/-! Lists over ranges. -/

/-- A range mapped block by block. -/
theorem map_range_mul {α : Type} (f : Nat → α) (n b : Nat) :
    (List.range (n * b)).map f = ((List.range n).map fun k => (List.range b).map fun j => f (b * k + j)).flatten := by
  induction n with
  | zero => simp
  | succ n ih =>
    rw [Nat.succ_mul, List.range_add, List.map_append, ih, List.range_succ, List.map_append, List.flatten_append]
    simp [Nat.mul_comm, Function.comp_def]

/-- A range mapped to one value. -/
theorem map_range_const {α : Type} (f : Nat → α) (a : α) (n : Nat) (h : ∀ k, k < n → f k = a) :
    (List.range n).map f = List.replicate n a := by
  induction n with
  | zero => rfl
  | succ n ih =>
    rw [List.range_succ, List.map_append, ih fun k hk => h k (by omega), List.replicate_succ']
    simp [h n (by omega)]

/-! The regions of a repetition. -/

variable (p : Params) (P : Payload)

theorem wireBit_payload {k : Nat} (h : k < 64) : wireBit P k = P.getLsbD (63 - k) := by
  simp [wireBit, Config.payloadBits, h]

theorem wireBit_trailer {k : Nat} (h : 64 ≤ k) : wireBit P k = true := by
  simp [wireBit, Config.payloadBits, Nat.not_lt.2 h]

theorem repLevel_preamble {r : Nat} (h : r < preT p) : repLevel p P r = decide (r % 2 = 0) := by
  simp [repLevel, h]

theorem repLevel_syncGap {j : Nat} (h : j < p.syncT) : repLevel p P (preT p + j) = false := by
  simp [repLevel, h]

theorem repLevel_data {k j : Nat} (hk : k < Config.payloadBits + p.trailerBits) (hj : j < 3) :
    repLevel p P (preT p + p.syncT + (3 * k + j)) = bitLevel (wireBit P k) j := by
  have h1 : ¬ preT p + p.syncT + (3 * k + j) < preT p := by omega
  have h2 : ¬ preT p + p.syncT + (3 * k + j) < preT p + p.syncT := by omega
  have h3 : preT p + p.syncT + (3 * k + j) - (preT p + p.syncT) = 3 * k + j := by omega
  have h4 : 3 * k + j < dataT p := by simp only [dataT, Config.bitT]; omega
  have h5 : (3 * k + j) / 3 = k := by omega
  have h6 : (3 * k + j) % 3 = j := by omega
  simp only [repLevel, h1, h2, h3, h4, Config.bitT, h5, h6, if_true, if_false]

theorem repLevel_pktGap (j : Nat) : repLevel p P (preT p + p.syncT + dataT p + j) = false := by
  have h1 : ¬ preT p + p.syncT + dataT p + j < preT p := by omega
  have h2 : ¬ preT p + p.syncT + dataT p + j < preT p + p.syncT := by omega
  have h3 : ¬ preT p + p.syncT + dataT p + j - (preT p + p.syncT) < dataT p := by omega
  simp only [repLevel, h1, h2, h3, if_false]

/-- A repetition's levels, cut at the four borders of its regions. -/
theorem repetitionLevels_regions :
    repetitionLevels p P =
      (List.range p.preCycles).flatMap (fun _ => [true, false])
        ++ List.replicate p.syncT false
        ++ ((List.range (Config.payloadBits + p.trailerBits)).flatMap fun k => [true, !wireBit P k, false])
        ++ List.replicate p.gapT false := by
  have hpre : (List.range (preT p)).map (repLevel p P) =
      (List.range p.preCycles).flatMap fun _ => [true, false] := by
    rw [show preT p = p.preCycles * 2 from Nat.mul_comm _ _, map_range_mul, List.flatMap_def]
    congr 1
    refine List.map_congr_left fun k hk => ?_
    have hk := List.mem_range.1 hk
    have h0 : 2 * k + 0 < preT p := by unfold preT; omega
    have h1 : 2 * k + 1 < preT p := by unfold preT; omega
    show [repLevel p P (2 * k + 0), repLevel p P (2 * k + 1)] = _
    rw [repLevel_preamble p P h0, repLevel_preamble p P h1]
    simp
  have hsync : (List.range p.syncT).map (fun j => repLevel p P (preT p + j)) = List.replicate p.syncT false :=
    map_range_const _ _ _ fun j hj => repLevel_syncGap p P hj
  have hdata : (List.range (dataT p)).map (fun d => repLevel p P (preT p + p.syncT + d)) =
      (List.range (Config.payloadBits + p.trailerBits)).flatMap fun k => [true, !wireBit P k, false] := by
    rw [dataT, map_range_mul, List.flatMap_def]
    congr 1
    refine List.map_congr_left fun k hk => ?_
    have hk := List.mem_range.1 hk
    show [repLevel p P (preT p + p.syncT + (3 * k + 0)), repLevel p P (preT p + p.syncT + (3 * k + 1)),
      repLevel p P (preT p + p.syncT + (3 * k + 2))] = _
    rw [repLevel_data p P hk (by omega), repLevel_data p P hk (by omega), repLevel_data p P hk (by omega)]
    simp [bitLevel]
  have hgap : (List.range p.gapT).map (fun j => repLevel p P (preT p + p.syncT + dataT p + j)) =
      List.replicate p.gapT false :=
    map_range_const _ _ _ fun j _ => repLevel_pktGap p P j
  rw [repetitionLevels, repT, List.range_add, List.range_add, List.range_add]
  simp only [List.map_append, List.map_map, Function.comp_def]
  rw [hpre, hsync, hdata, hgap]

/-- The slot within the repetition, block by block. -/
theorem level_block {r : Nat} (m : Nat) (hr : r < repT p) : level p P (repT p * m + r) = repLevel p P r := by
  rw [level, Nat.mul_add_mod, Nat.mod_eq_of_lt hr]

end Sys2Proof.Machine
end

