-- ==== Sys2Proof/Tests/Slice0.lean ====
section
/-! SUPPORT. Tests of the model: expected results come from 30_encoding.md's table and from the vectors V1 to V57 of 95_test_vectors.md, worked by hand where no vector is named; then, for every statement with hypotheses, a witness that meets them. -/

namespace Sys2Proof.Tests

open Sys2Proof.Machine
open Sys2Proof.Config (Params params)

/-! ### WellFormed: each check refuses an ill-formed term. -/

theorem test_wf_defaults : params.wf = true := by decide
theorem test_wf_refuses_no_repetition : ({ reps := 0 } : Params).sendsRepetition = false := by decide
theorem test_wf_refuses_no_preamble : ({ preCycles := 0 } : Params).hasPreamble = false := by decide
theorem test_wf_refuses_zero_idle : ({ idleMs := 0 } : Params).idlePositive = false := by decide

/-- No rule excludes these: a long burst, no cooldown, a threshold beyond TW, a narrow counter. -/
theorem test_wf_accepts_what_no_rule_excludes :
    ({ reps := 100, cooldownMs := 0, idleMs := 2 ^ 32, tw := 16 } : Params).wf = true := by decide

theorem test_script_refuses_internal_and_symbol :
    Instr.scriptable .tickB = false ∧ Instr.scriptable .pktGap = false := by decide

/-! ### Decoding: the table's words, bit by bit (R92; the word table of 95_test_vectors.md 2.6). -/

theorem test_decode_external :
    decodeOutside 0b00010000#8 = .ok .reset ∧ decodeOutside 0b00100000#8 = .ok .msTick ∧
    decodeOutside 0b00110000#8 = .ok .tick ∧ decodeOutside 0b01000000#8 = .ok .txUnit ∧
    decodeOutside 0b01010000#8 = .ok .wake := by and_intros <;> rfl

theorem test_decode_set_inputs :
    decodeOutside 0b01100000#8 = .ok (.setInputs false false) ∧
    decodeOutside 0b01100001#8 = .ok (.setInputs false true) ∧
    decodeOutside 0b01100010#8 = .ok (.setInputs true false) ∧
    decodeOutside 0b01100011#8 = .ok (.setInputs true true) := by and_intros <;> rfl

theorem test_decode_internal :
    decodeInside 0b10000000#8 = .ok .buildPayload ∧ decodeInside 0b10010000#8 = .ok .txStart ∧
    decodeInside 0b10100000#8 = .ok .txEnd ∧ decodeInside 0b10110000#8 = .ok .tickB ∧
    decodeInside 0b11000000#8 = .ok .sleepEnter := by and_intros <;> rfl

theorem test_decode_refuses_must_be_zero :
    decodeOutside 0x64 = .error .mustBeZero ∧ decodeOutside 0x31 = .error .mustBeZero := by
  and_intros <;> rfl

theorem test_decode_refuses_reserved_code :
    decodeOutside 0x00 = .error .reservedCode ∧ decodeOutside 0x70 = .error .reservedCode ∧
    decodeOutside 0xD0 = .error .reservedCode ∧ decodeOutside 0xE0 = .error .reservedCode ∧
    decodeOutside 0xF0 = .error .reservedCode := by and_intros <;> rfl

theorem test_decode_refuses_internal_from_outside :
    decodeOutside 0x80 = .error .internalFromOutside ∧ decodeOutside 0x90 = .error .internalFromOutside ∧
    decodeOutside 0xA0 = .error .internalFromOutside ∧ decodeOutside 0xB0 = .error .internalFromOutside ∧
    decodeOutside 0xC0 = .error .internalFromOutside := by and_intros <;> rfl

theorem test_decode_symbols :
    decodeSymbol params false [true, false] = .ok .preCycle ∧
    decodeSymbol params false [true, true, false] = .ok .bit0 ∧
    decodeSymbol params false [true, false, false] = .ok .bit1 ∧
    decodeSymbol params true [true, false, false] = .ok .trailerBit ∧
    decodeSymbol params false (List.replicate 10 false) = .ok .syncGap ∧
    decodeSymbol params true (List.replicate 39 false) = .ok .pktGap := by
  and_intros <;> rfl

theorem test_decode_refuses_other_levels :
    decodeSymbol params false [true, true, true] = .error .notASymbol ∧
    decodeSymbol params false [] = .error .notASymbol := by and_intros <;> rfl

theorem test_table_words :
    decodeTableWord 8 0x10 = some .reset ∧ decodeTableWord 8 0x62 = some (.setInputs true false) ∧
    decodeTableWord 8 0xC0 = some .sleepEnter ∧ decodeTableWord 8 0b10 = some .preCycle ∧
    decodeTableWord 16 0 = some .syncGap ∧ decodeTableWord 40 0 = some .pktGap ∧
    decodeTableWord 8 0b110 = some .bit0 ∧ decodeTableWord 8 0b100 = some .bit1 ∧ decodeTableWord 8 0 = none := by
  decide

theorem test_state_codes :
    CtrlState.ofCode 0b00 = .awakeIdle ∧ CtrlState.ofCode 0b01 = .awakeActive ∧ CtrlState.ofCode 0b10 = .sleeping ∧
    CtrlState.ofCode 0b11 = .reserved11 ∧ CtrlState.sleeping.code = 0b10 := by decide

/-! ### Payload (V1 to V5). -/

theorem test_payload_v1 : packPayload 0 0x2 0x1234567 = 0x0000000212345672 := by decide
theorem test_payload_v2 : packPayload 0 0xF 0xFFFFFFF = 0x0000000FFFFFFFFF := by decide
theorem test_payload_v4 : packPayload 0 0x8 0x0000001 = 0x0000000800000018 := by decide
theorem test_payload_v5 : packPayload 0 0x1 0x8000000 = 0x0000000180000001 := by decide
theorem test_payload_upper : packPayload 0xABCDEF1 0x2 0x1234567 = 0xABCDEF1212345672 := by decide
theorem test_payload_byte : payloadByte 0xABCDEF1212345672 7 = 0xAB ∧ payloadByte 0xABCDEF1212345672 0 = 0x72 := by decide

/-! ### The wire (95_test_vectors.md 2.2, 2.3). -/

/-- V1's payload. -/
def samplePayload : Payload := 0x0000000212345672

theorem test_levels_of_preamble_and_gap :
    (List.range 34).map (level params samplePayload) =
      (List.replicate 12 [true, false]).flatten ++ List.replicate 10 false := by decide +kernel

/-- The last five nibbles of the listing in 2.2, `4 5 6 7 2`: slots 166 to 225. -/
theorem test_levels_of_low_nibbles :
    (List.range 60).map (fun j => level params samplePayload (166 + j)) =
      "110100110110110100110100110100100110110100100100110110100110".toList.map (fun c => decide (c = '1')) := by
  decide +kernel

theorem test_levels_of_trailer_and_packet_gap :
    (List.range 45).map (fun j => level params samplePayload (226 + j)) =
      [true, false, false, true, false, false] ++ List.replicate 39 false := by decide +kernel

theorem test_level_of_later_repetitions :
    level params samplePayload 271 = true ∧ level params samplePayload 1083 = false := by decide +kernel

theorem test_runs :
    (repetitionRuns params samplePayload).length = 156 ∧
    (repetitionRuns params samplePayload).take 24 =
      (List.replicate 11 [(true, 1), (false, 1)]).flatten ++ [(true, 1), (false, 11)] ∧
    (repetitionRuns params samplePayload).drop 150 =
      [(true, 2), (false, 1), (true, 1), (false, 2), (true, 1), (false, 41)] := by decide +kernel

theorem test_high_time :
    popcount samplePayload = 14 ∧ highCount (repetitionLevels params samplePayload) = 128 ∧
    risingEdges false (repetitionLevels params samplePayload) = 78 := by decide +kernel

/-- R79: the runs of a stream, measured. -/
theorem test_measure_runs : measureRuns [true, true, false, true] = [(true, 2), (false, 1), (true, 1)] := by decide

/-- R79 from levels alone, with an idle line before and behind: 60 LOW units end the second trailer bit's pair. -/
theorem test_decode_levels :
    decodeLevels params ([false, true, false, true, true, false, true] ++ List.replicate 60 false) =
      some [.preCycle, .bit0, .trailerBit, .pktGap] ∧
    decodeLevels params ([true] ++ List.replicate 60 false ++ [true, false]) = none := by decide +kernel

/-- R28: 11 bits at the defaults, 15 for a hundred repetitions. -/
theorem test_slot_width : slotWidth params = 11 ∧ slotWidth { reps := 100 } = 15 := by decide +kernel

/-! ### One step of each operation, on small states. -/

/-- Awake at rest, no permit, pins HIGH; a test choice of the open permit. -/
def rest : State := { State.reset with txAllowed := false }

/-- A burst of V1's payload in progress at a slot. -/
def bursting (slot : Slot params) : State :=
  { rest with txBusy := true, txAllowed := true, txSlot := slot, txPayload := samplePayload }

/-- SLEEPING at a time, with the pins at the given levels. -/
def asleep (now : Millis params) (b c : Level) : State :=
  { rest with
    ctrlState := .sleeping, adcEn := false, ledOff := true, irqBtnEn := true, irqChgEn := true
    nowMs := now, buttonN := b, chargerN := c }

/-- The state a meaning answers, or the one it was given. -/
def next {p : Params} (s : State p) : Outcome p → State p
  | .next t => t
  | .fault _ => s
  | .refused _ => s

/-- The state after one operation. -/
def after (i : Instr) (s : State) : State := next s (exec i s)

/-- V57, and V17 without a phase B. -/
theorem test_reset_clears_reserved_state :
    (after .reset { bursting 500 with ctrlState := .reserved11 }).ctrlState = .awakeIdle ∧
    (after .reset (bursting 500)).txBusy = false ∧ (after .reset (bursting 500)).idleTs = 0 := by
  and_intros <;> rfl

theorem test_reset_keeps_pins : (after .reset (asleep 777 false true)).buttonN = false := by rfl

/-- V20. -/
theorem test_ms_tick_wraps : exec .msTick { rest with nowMs := 0xFFFFFFFF } = .next { rest with nowMs := 0 } := by rfl

theorem test_ms_tick_in_sleep : (after .msTick (asleep 5 true true)).nowMs = 6 := by decide

/-- V21 to V23. -/
theorem test_elapsed :
    elapsed 0xFFFFFF00#32 0x000000E8 = 488 ∧ elapsed 0xFFFFFF00#32 0x000002E8 = 1000 ∧ elapsed 5#32 5 = 0 := by decide

/-- A tick's start: permit, pins, time, cooldown. -/
def ticking (permit : Bool) (b c : Level) (now cooldown : Millis params) : State :=
  { rest with txAllowed := permit, buttonN := b, chargerN := c, nowMs := now, cooldownTs := cooldown }

/-- V30, V31, V37: a heartbeat starts a burst; V35: one burst with a permit already held. -/
theorem test_tick_heartbeat :
    (after .tick (ticking false true false 5000 4000)).cooldownTs = 5000 ∧
    (after .tick (ticking false true false 5000 4000)).txBusy = true ∧
    (after .tick (ticking false true false 0x2E8 0xFFFFFF00)).txAllowed = true ∧
    (after .tick (ticking true true false 5000 3000)).cooldownTs = 5000 := by
  and_intros <;> rfl

/-- V32, V33, V36: no permit; V34: the permit held, the cooldown unchanged. -/
theorem test_tick_without_heartbeat :
    (after .tick (ticking false true false 4999 4000)).txBusy = false ∧
    (after .tick (ticking false false true 9000 0)).txBusy = false ∧
    (after .tick (ticking false true false 0xE8 0xFFFFFF00)).txAllowed = false ∧
    (after .tick (ticking true true true 300 0)).cooldownTs = 0 := by
  and_intros <;> rfl

/-- V11, V12, V13. -/
theorem test_tx_unit_advances :
    (after .txUnit (bursting 0)).txO = false ∧ exec .txUnit (bursting 23) = .next (bursting 24) ∧
    exec .txUnit (bursting 1082) = .next (bursting 1083) := by and_intros <;> rfl

/-- V14 with V44's phase B: the snapshot of the tick decides, not the time now. -/
theorem test_last_tx_unit_enters_sleep :
    exec .txUnit { bursting 1083 with tkNow := 2000, idleTs := 1000, nowMs := 2447 } =
      .next { rest with
        tkNow := 2000, idleTs := 1000, nowMs := 2447, txSlot := 1083, txPayload := samplePayload
        ctrlState := .sleeping, adcEn := false, ledOff := true, irqBtnEn := true, irqChgEn := true } := by rfl

/-- V15, V16. -/
theorem test_tx_unit_stops :
    exec .txUnit rest = .refused .notEnabled ∧ exec .txUnit (bursting 1084) = .fault .reservedState := by and_intros <;> rfl

/-- V50, V51. -/
theorem test_wake :
    exec .wake (asleep 777 false true) = .next { rest with
      nowMs := 777, idleTs := 777, cooldownTs := 777, txAllowed := true, buttonN := false } ∧
    (after .wake (asleep 777 true false)).txAllowed = true := by and_intros <;> rfl

/-- V52, V53, V54. -/
theorem test_wake_not_enabled :
    exec .wake (after .wake (asleep 777 false false)) = .refused .notEnabled ∧
    exec .wake (asleep 777 true true) = .refused .notEnabled ∧
    exec .wake { rest with buttonN := false } = .refused .notEnabled := by and_intros <;> rfl

/-- V46, V47. -/
theorem test_set_inputs :
    exec (.setInputs false true) rest = .next { rest with buttonN := false } ∧
    (after (.setInputs false true) (asleep 9 true true)).wakeEnabled = true := by and_intros <;> rfl

/-- The value returned is the payload of `rnd_i`; no register changes. -/
theorem test_build_payload :
    (after .buildPayload { rest with rndI := 0x5A }).builtPayload = payloadOf 0x5A ∧
    (after .buildPayload { rest with rndI := 0x5A }).txPayload = 0 := by and_intros <;> rfl

/-- V10. -/
theorem test_tx_start :
    (after .txStart { rest with txAllowed := true, rndI := 0x5A }).txPayload = payloadOf 0x5A ∧
    (after .txStart { rest with txAllowed := true, rndI := 0x5A, txSlot := 1083 }).txSlot = 0 ∧
    (after .txStart { rest with txAllowed := true }).txBusy = true := by and_intros <;> rfl

theorem test_tx_end :
    (after .txEnd (bursting 1083)).txAllowed = false ∧ exec .txEnd (bursting 1082) = .refused .notEnabled := by
  and_intros <;> rfl

/-- A phase B: snapshot and idle timestamp. -/
def phaseB (b c : Bool) (now idle : Millis params) : State := { rest with tkBtn := b, tkChg := c, tkNow := now, idleTs := idle }

/-- V40, V41, V42. -/
theorem test_tick_b :
    exec .tickB (phaseB true false 7000 1000) = .next { phaseB true false 7000 7000 with ctrlState := .awakeActive } ∧
    (after .tickB (phaseB false true 7000 1000)).idleTs = 7000 ∧
    exec .tickB (phaseB false false 1999 1000) = .next (phaseB false false 1999 1000) := by and_intros <;> rfl

/-- V43. -/
theorem test_tick_b_sleeps : (after .tickB (phaseB false false 2000 1000)).ctrlState = .sleeping := by decide +kernel

/-- V45. -/
theorem test_sleep_enter :
    exec .sleepEnter (phaseB false false 2000 1000) = .next { phaseB false false 2000 1000 with
      ctrlState := .sleeping, ledOff := true, adcEn := false, irqBtnEn := true, irqChgEn := true } := by rfl

theorem test_sleep_enter_too_early : exec .sleepEnter (phaseB false false 1999 1000) = .refused .notEnabled := by rfl

/-- The slots of 2.2; the sample's first payload bit is 0, its bit P[33] is the first 1 (slot 124). -/
theorem test_symbols_are_sent :
    exec .preCycle (bursting 22) = .next (bursting 24) ∧ exec .syncGap (bursting 24) = .next (bursting 34) ∧
    exec .bit0 (bursting 34) = .next (bursting 37) ∧ exec .bit1 (bursting 124) = .next (bursting 127) ∧
    exec .trailerBit (bursting 226) = .next (bursting 229) := by
  and_intros <;> rfl

theorem test_packet_gap_is_sent : after .pktGap (bursting 232) = bursting 271 := by decide +kernel

theorem test_symbols_out_of_place :
    exec .preCycle (bursting 23) = .refused .notEnabled ∧ exec .syncGap (bursting 25) = .refused .notEnabled ∧
    exec .bit0 (bursting 124) = .refused .notEnabled ∧ exec .bit1 (bursting 226) = .refused .notEnabled ∧
    exec .trailerBit (bursting 223) = .refused .notEnabled ∧ exec .pktGap rest = .refused .notEnabled := by
  and_intros <;> rfl

/-- V56, and I20. -/
theorem test_reserved_state_faults :
    exec .tick { rest with ctrlState := .reserved11 } = .fault .reservedState ∧
    exec .msTick (bursting 1084) = .fault .reservedState := by and_intros <;> rfl

/-! ### Other parameters: TW = 8, one repetition, thresholds of 20 ms. -/

def small : Params := { tw := 8, reps := 1, cooldownMs := 20, idleMs := 20 }

theorem test_small_ms_tick_wraps :
    ({ State.resetAt small with nowMs := 255 } : State small).perform .msTick = .next (State.resetAt small) := by rfl

/-- The slot 270 is the burst's last. -/
theorem test_small_burst_ends :
    next (State.resetAt small) (({ State.resetAt small with txBusy := true, txSlot := 270 } : State small).perform .txUnit) =
      { State.resetAt small with txSlot := 270, txAllowed := false } := by rfl

theorem test_small_sleeps_sooner :
    next (State.resetAt small) (({ State.resetAt small with txAllowed := false, nowMs := 20 } : State small).perform .tick) =
      { State.resetAt small with
        txAllowed := false, nowMs := 20, tkNow := 20, ctrlState := .sleeping, adcEn := false, ledOff := true
        irqBtnEn := true, irqChgEn := true } := by rfl

/-! ### The step. -/

/-- Word 0x62 as the next offer. -/
theorem test_step_runs_word : step (rest.withFetchWord 8 0x62) = .next { rest with chargerN := false } := by rfl

theorem test_step_refuses_reserved_word :
    step { rest with script := [⟨0x64, 0⟩] } = .refused (.reservedEvent .mustBeZero) := by rfl

/-- R91: right after reset the word of TICK_B, offered from outside, is refused. -/
theorem test_step_refuses_internal_word :
    step { State.reset with script := [⟨0xB0, 0⟩] } = .refused (.reservedEvent .internalFromOutside) := by rfl

/-- TICK_B as the part whose place has come; then the script goes on (log 5). -/
theorem test_step_runs_part :
    step ({ phaseB true false 7000 1000 with script := [⟨0x20, 5⟩] }.withFetchWord 8 0xB0) =
      .next { phaseB true false 7000 7000 with ctrlState := .awakeActive, script := [⟨0x20, 5⟩] } := by rfl

theorem test_step_drops_disabled_event : step (rest.withFetchWord 8 0x50) = .next rest := by rfl

/-- R58: a burst goes on by one TX_UNIT a step; the script cannot hold a symbol, and the number of PRE_CYCLE's levels, as an event word, is reserved (R91). -/
theorem test_step_is_one_unit :
    step ((bursting 0).withFetchWord 8 0x40) = .next (bursting 1) ∧
    step { bursting 0 with script := [⟨0b10, 0⟩] } = .refused (.reservedEvent .reservedCode) := by and_intros <;> rfl

/-- The same levels `100` are a BIT1 at slot 124 and a TRAILER_BIT at slot 226. -/
theorem test_step_tells_trailer_by_position :
    step ((bursting 124).withFetchWord 8 0b100) = .next (bursting 127) ∧
    step ((bursting 226).withFetchWord 8 0b100) = .next (bursting 229) := by and_intros <;> rfl

/-! ### Scripts (R93, R94). -/

theorem test_script_line :
    parseLine "SET_INPUTS button_n=0 charger_n=1 ; pressed".toList = some (.setInputs false true) ∧
    parseLine "WAKE;at once".toList = some .wake ∧ parseLine "TICK_B".toList = none := by decide +kernel

theorem test_tick_at : tickAt 10 12 = [.msTick, .msTick, .tick] := by decide

/-! ### Witnesses: for each statement with hypotheses, states and operands that meet all of them together. -/

theorem inv_rest : rest.BlockInv := by constructor <;> decide

theorem inv_asleep (now : Millis params) (b c : Level) : (asleep now b c).BlockInv := by
  constructor <;> simp [asleep, rest, State.reset, State.resetAt, State.txO, State.awake]

theorem inv_bursting (slot : Slot params) (h : slot.toNat < 1084) : (bursting slot).BlockInv := by
  constructor <;> simp [bursting, rest, State.reset, State.resetAt, State.awake]
  exact h

/-- One word for each clause: both ends of the reserved and of the internal codes, and each must-be-zero rule. -/
theorem witness_ReservedEventsAreRefused :
    (0x00#8).extractLsb' 4 4 ∈ [0x0#4, 0x7#4, 0xD#4, 0xE#4, 0xF#4] ∧
    (0xF0#8).extractLsb' 4 4 ∈ [0x0#4, 0x7#4, 0xD#4, 0xE#4, 0xF#4] ∧
    (0x80#8).extractLsb' 4 4 ∈ [0x8#4, 0x9#4, 0xA#4, 0xB#4, 0xC#4] ∧
    (0xC0#8).extractLsb' 4 4 ∈ [0x8#4, 0x9#4, 0xA#4, 0xB#4, 0xC#4] ∧
    ((0x64#8).extractLsb' 4 4 = 0x6#4 ∧ (0x64#8).extractLsb' 2 2 ≠ 0) ∧
    ((0x31#8).extractLsb' 4 4 ≠ 0x6#4 ∧ (0x31#8).extractLsb' 0 4 ≠ 0) := by decide

/-- What is taken between events, steps that go on, one of them with a part to run, and a state reachable from reset. -/
theorem witness_ReservedEventsAreRefused_parts :
    (State.reset.part = none ∧ (State.reset.withFetchWord 8 0x61).fetch = some (.outside 0x61, State.reset) ∧
      decode params State.reset.inTrailer (.outside 0x61) = .ok (.setInputs false true)) ∧
    (∃ t, step (State.reset.withFetchWord 8 0x61) = .next t) ∧
    (∃ t, (rest.withFetchWord 8 0xB0).part = some (.inside 0xB0) ∧ step (rest.withFetchWord 8 0xB0) = .next t) ∧
    Reachable State.reset :=
  ⟨⟨rfl, rfl, rfl⟩, ⟨_, rfl⟩, ⟨_, rfl, rfl⟩, .start (script := []) (b := true) (c := true) (rnd := 0) rfl⟩

/-- The last trailer bit of a burst and the first data bit are at their starts. -/
theorem witness_DecodeOfEncode :
    Instr.preCycle ≠ .trailerBit ∧ Instr.trailerBit ≠ .bit1 ∧ (bursting (271 * 3 + 229)).atSymbol .trailerBit = true ∧
    (bursting 124).atSymbol .bit1 = true := by decide +kernel

/-- BuildPayloadResult, MsTickResult, SetInputsResult, WaitAndTickAt, DisabledEventsDoNotOccur: legal states. -/
theorem witness_Legal : rest.Legal ∧ (bursting 1083).Legal ∧ (asleep 0 true true).Legal := by
  refine ⟨by decide, by decide, by decide⟩

theorem witness_DerivedLengths : 1 < burstT small ∧ burstT small - 1 < 2 ^ 9 := by decide

/-- With other parameters (MsTickResult): TW = 8, the counter at its last value. -/
theorem witness_MsTickResult : State.Legal { State.resetAt small with nowMs := 255 } := ⟨by decide, by decide⟩

theorem witness_SymbolAtItsStart :
    0 < 12 ∧ 11 < 12 ∧ 0 < 64 ∧ 63 < 64 ∧
    symbolStart params samplePayload 22 = some .preCycle ∧ symbolStart params samplePayload 24 = some .syncGap ∧
    symbolStart params samplePayload 34 = some .bit0 ∧ symbolStart params samplePayload 124 = some .bit1 ∧
    symbolStart params samplePayload 229 = some .trailerBit ∧ symbolStart params samplePayload 232 = some .pktGap ∧
    1 < (symbolLevels params .preCycle).length ∧ 9 < (symbolLevels params .syncGap).length ∧
    2 < (symbolLevels params .bit0).length ∧ 2 < (symbolLevels params .bit1).length ∧
    2 < (symbolLevels params .trailerBit).length ∧ 38 < (symbolLevels params .pktGap).length := by decide +kernel

theorem witness_RunListIsLevelFunction : 0 < ({ preCycles := 1, trailerBits := 1 } : Params).preCycles ∧
    0 < ({ preCycles := 1, trailerBits := 1 } : Params).trailerBits := by decide

theorem witness_WireRoundTrip :
    0 < params.reps ∧ 3 < params.reps ∧ payloadBitsMsbFirst samplePayload = payloadBitsMsbFirst samplePayload := by
  refine ⟨by decide, by decide, rfl⟩

theorem witness_MsTicksInBurst : 0 < 1000 ∧ 999 < 1000 := by decide

theorem witness_OutputLevel : (bursting 0).txBusy = true ∧ rest.txBusy = false := by decide

/-- The second clause's hypotheses are those of witness_TickStartsBurst. -/
theorem witness_TxStartResult :
    State.IsAwake { rest with txAllowed := true } ∧ rest.txBusy = false ∧
    State.txAllowed { rest with txAllowed := true } = true := by decide

theorem witness_TxUnitAdvances :
    (bursting 0).ctrlState ≠ .reserved11 ∧ (bursting 0).txBusy = true ∧ (bursting 0).txSlot.toNat + 1 < burstT params ∧
    (bursting 1082).txSlot.toNat + 1 < burstT params := by decide

/-- One repetition: the last slot is 270. -/
theorem witness_TxUnitAdvances_small :
    ∀ s ∈ [({ State.resetAt small with txBusy := true, txSlot := 269 } : State small)],
      s.ctrlState ≠ .reserved11 ∧ s.txBusy = true ∧ s.txSlot.toNat + 1 < burstT small := by decide

theorem witness_LastTxUnitEndsBurst :
    (bursting 1083).IsAwake ∧ (bursting 1083).txBusy = true ∧ (bursting 1083).txSlot.toNat + 1 = burstT params := by decide

/-- Each of the six symbols, PKT_GAP before the last one. -/
theorem witness_SymbolIsSent :
    ∀ x ∈ [(22, Instr.preCycle), (24, .syncGap), (34, .bit0), (124, .bit1), (229, .trailerBit), (232, .pktGap),
        (271 * 3 + 229, .trailerBit)],
      (bursting (BitVec.ofNat _ x.1)).Legal ∧ (bursting (BitVec.ofNat _ x.1)).txBusy = true ∧
      symbolStart params (bursting (BitVec.ofNat _ x.1)).txPayload
        ((bursting (BitVec.ofNat _ x.1)).txSlot.toNat % repT params) = some x.2 ∧
      (bursting (BitVec.ofNat _ x.1)).txSlot.toNat + (symbolLevels params x.2).length < burstT params := by
  decide +kernel

theorem witness_LastGapEndsBurst :
    (bursting 1045).IsAwake ∧ (bursting 1045).txBusy = true ∧ (bursting 1045).txSlot.toNat + params.gapT = burstT params := by
  decide

/-- A burst that goes on, and one that comes to its end by each of the three that end it. -/
theorem witness_OnlyResetStopsBurst :
    (∃ t, exec .msTick (bursting 7) = .next t) ∧ (∃ t, exec .txUnit (bursting 1083) = .next t) ∧
    (∃ t, exec .txEnd (bursting 1083) = .next t) ∧ (∃ t, exec .pktGap (bursting 1045) = .next t) ∧
    (bursting 7).BlockInv ∧ (bursting 1083).BlockInv ∧ (bursting 1045).BlockInv ∧
    (bursting 7).txBusy = true ∧ (bursting 1083).txBusy = true := by
  refine ⟨⟨_, rfl⟩, ⟨_, rfl⟩, ⟨_, rfl⟩, ⟨_, exec_next (by decide) (by decide +kernel) rfl⟩, inv_bursting _ (by decide),
    inv_bursting _ (by decide), inv_bursting _ (by decide), rfl, rfl⟩

theorem witness_BurstProgress :
    (bursting 0).Legal ∧ (bursting 0).txBusy = true ∧
    [Instr.txUnit, .msTick, .setInputs false true].all duringBurst = true ∧
    (bursting 0).txSlot.toNat + [Instr.txUnit, .msTick, .setInputs false true].count .txUnit < burstT params ∧
    (bursting 0).txSlot.toNat + (List.replicate 1083 Instr.txUnit).count .txUnit < burstT params := by
  refine ⟨by decide, by decide, by decide, by decide, ?_⟩
  rw [List.count_replicate_self]
  decide

theorem witness_BurstRunsToItsEnd :
    (bursting 0).BlockInv ∧ (bursting 0).txBusy = true ∧
    (List.replicate 447 Instr.msTick ++ List.replicate 1084 Instr.txUnit).all duringBurst = true ∧
    (bursting 0).txSlot.toNat + (List.replicate 447 Instr.msTick ++ List.replicate 1084 Instr.txUnit).count .txUnit =
      burstT params := by
  refine ⟨inv_bursting _ (by decide), rfl, ?_, ?_⟩
  · rw [List.all_eq_true]
    intro i hi
    rcases List.mem_append.1 hi with h | h <;> rw [List.eq_of_mem_replicate h] <;> rfl
  · rw [List.count_append, List.count_replicate_self, List.count_replicate, burstT_params]
    decide

theorem witness_ElapsedIsTrueTime : 0 < 2 ^ params.tw ∧ 2 ^ params.tw - 1 < 2 ^ params.tw ∧ 2 ^ small.tw - 1 < 2 ^ small.tw := by
  decide

/-- A heartbeat at the threshold, and a permit without one. -/
theorem witness_TickStartsBurst :
    (ticking false true false 1000 0).IsAwake ∧ (ticking false true false 1000 0).txBusy = false ∧
    (ticking false true false 1000 0).HeartbeatHolds ∧ (ticking true true true 300 0).IsAwake ∧
    (ticking true true true 300 0).txBusy = false ∧ (ticking true true true 300 0).txAllowed = true := by decide

/-- A cooldown of 20 ms, elapsed across the wrap of an 8-bit counter. -/
theorem witness_TickStartsBurst_small :
    ∀ s ∈ [({ State.resetAt small with nowMs := 4, cooldownTs := 240, chargerN := false } : State small)],
      s.IsAwake ∧ s.txBusy = false ∧ s.HeartbeatHolds := by decide

/-- The button, and the charger one millisecond before a heartbeat. -/
theorem witness_TickRefreshesIdle :
    ∀ s ∈ [ticking false false true 9000 0, ticking false true false 4999 4000],
      s.IsAwake ∧ s.txBusy = false ∧ ¬ s.HeartbeatHolds ∧ s.txAllowed = false ∧
      (s.buttonN = false ∨ s.chargerN = false) := by decide

theorem witness_TickEntersSleep :
    (ticking false true true 1000 0).IsAwake ∧ (ticking false true true 1000 0).txBusy = false ∧
    (ticking false true true 1000 0).txAllowed = false ∧ (ticking false true true 1000 0).buttonN = true ∧
    (ticking false true true 1000 0).chargerN = true ∧
    params.idleMs ≤ ((ticking false true true 1000 0).nowMs - (ticking false true true 1000 0).idleTs).toNat := by decide

theorem witness_TickEntersSleep_small :
    ∀ s ∈ [({ State.resetAt small with txAllowed := false, nowMs := 20 } : State small)],
      s.IsAwake ∧ s.txBusy = false ∧ s.txAllowed = false ∧ s.buttonN = true ∧ s.chargerN = true ∧
      small.idleMs ≤ (s.nowMs - s.idleTs).toNat := by decide

theorem witness_TickStaysAwake :
    (ticking false true true 999 0).IsAwake ∧ (ticking false true true 999 0).txBusy = false ∧
    (ticking false true true 999 0).txAllowed = false ∧ (ticking false true true 999 0).buttonN = true ∧
    (ticking false true true 999 0).chargerN = true ∧
    ((ticking false true true 999 0).nowMs - (ticking false true true 999 0).idleTs).toNat < params.idleMs := by decide

/-- The three outcomes; the second clause's hypotheses are those of witness_TickRefreshesIdle. -/
theorem witness_TickBResult :
    ∀ s ∈ [phaseB true false 7000 1000, phaseB false false 2000 1000, phaseB false false 1999 1000],
      s.IsAwake ∧ s.txBusy = false ∧ s.txAllowed = false := by decide

theorem witness_SleepEnterResult :
    (phaseB false false 2000 1000).IsAwake ∧ (phaseB false false 2000 1000).txBusy = false ∧
    (phaseB false false 2000 1000).txAllowed = false ∧ (phaseB false false 2000 1000).tkBtn = false ∧
    (phaseB false false 2000 1000).tkChg = false ∧
    params.idleMs ≤ ((phaseB false false 2000 1000).tkNow - (phaseB false false 2000 1000).idleTs).toNat := by decide

theorem run_wait (n : Nat) (s : State) (h : s.Legal) :
    execAll (waitMs n) s = .next { s with nowMs := s.nowMs + BitVec.ofNat _ n } ∧ keepsCooldown (waitMs n) s = true := by
  induction n generalizing s with
  | zero => simp [waitMs, execAll, keepsCooldown]
  | succ n ih =>
    have he : exec .msTick s = .next { s with nowMs := s.nowMs + 1 } := exec_next h rfl rfl
    have h' : State.Legal { s with nowMs := s.nowMs + 1 } := h
    have hn : s.nowMs + 1 + BitVec.ofNat _ n = s.nowMs + BitVec.ofNat _ (n + 1) := by
      rw [BitVec.add_assoc, Nat.add_comm n 1, BitVec.ofNat_add]
      rfl
    simp only [waitMs, List.replicate_succ, execAll, keepsCooldown, he]
    refine ⟨?_, ?_⟩
    · rw [← hn]
      exact (ih _ h').1
    · simpa [restartsCooldown, waitMs] using (ih _ h').2

/-- A heartbeat at 1000 ms, then 1000 MS_TICKs up to the next. -/
theorem witness_HeartbeatSpacing : ∃ (es : List Instr) (s t u : State),
    s.HeartbeatHolds ∧ exec .tick s = .next t ∧ keepsCooldown es t = true ∧ execAll es t = .next u ∧
    u.HeartbeatHolds := by
  have hl : State.Legal (after .tick (ticking false true false 1000 0)) := ⟨by decide +kernel, fun _ => by decide +kernel⟩
  refine ⟨waitMs 1000, ticking false true false 1000 0, after .tick (ticking false true false 1000 0), _, by decide, rfl,
    (run_wait 1000 _ hl).2, (run_wait 1000 _ hl).1, ?_, ?_⟩
  · rfl
  · decide +kernel

theorem witness_IdleActiveIndistinguishable : rest.ctrlState = .awakeIdle := by decide

/-- By the button, by the charger, by both. -/
theorem witness_WakeResult :
    ∀ s ∈ [asleep 777 false true, asleep 777 true false, asleep 777 false false],
      s.ctrlState = .sleeping ∧ s.Legal ∧ s.WakeRequested := by decide

theorem witness_WakeOnceThenBurst :
    (asleep 777 false false).txBusy = false ∧ ∃ t, exec .wake (asleep 777 false false) = .next t := ⟨rfl, _, rfl⟩

theorem witness_NeverEnabledTogether :
    rest.BlockInv ∧ (∃ t, exec .tick rest = .next t) ∧ (bursting 0).BlockInv ∧ (∃ t, exec .txUnit (bursting 0) = .next t) ∧
    (asleep 0 false true).BlockInv ∧ ∃ t, exec .wake (asleep 0 false true) = .next t :=
  ⟨inv_rest, ⟨_, rfl⟩, inv_bursting _ (by decide), ⟨_, rfl⟩, inv_asleep _ _ _, _, rfl⟩

/-- Both reserved states. -/
theorem witness_ReservedStateFaults :
    ¬ State.Legal { rest with ctrlState := .reserved11 } ∧ ¬ (bursting 1084).Legal ∧ (bursting 1083).BlockInv :=
  ⟨by decide, by decide, inv_bursting _ (by decide)⟩

theorem witness_DisabledEventsDoNotOccur :
    (rest.withFetchWord 8 0x50).Legal ∧ (rest.withFetchWord 8 0x50).part = none ∧ (rest.withFetchWord 8 0x50).script = [⟨0x50, 0⟩] ∧
    decode params false (.outside 0x50) = .ok .wake ∧ exec .wake rest = .refused .notEnabled :=
  ⟨by decide, rfl, rfl, rfl, rfl⟩

/-- Sleep is left by WAKE and entered by SLEEP_ENTER. -/
theorem witness_SleepEntryAndExit :
    (asleep 777 false true).BlockInv ∧ (asleep 777 false true).ctrlState = .sleeping ∧
    (∃ t, exec .wake (asleep 777 false true) = .next t ∧ t.ctrlState ≠ .sleeping) ∧
    (phaseB false false 2000 1000).BlockInv ∧ (phaseB false false 2000 1000).ctrlState ≠ .sleeping ∧
    ∃ t, exec .sleepEnter (phaseB false false 2000 1000) = .next t ∧ t.ctrlState = .sleeping :=
  ⟨inv_asleep _ _ _, rfl, ⟨_, rfl, by decide +kernel⟩, by constructor <;> decide, by decide, _, rfl, by decide +kernel⟩

theorem witness_SleepKeepsRegisters :
    (asleep 5 true true).BlockInv ∧ (asleep 5 true true).ctrlState = .sleeping ∧
    (∃ t, exec .msTick (asleep 5 true true) = .next t) ∧ ∃ t, exec (.setInputs false true) (asleep 5 true true) = .next t :=
  ⟨inv_asleep _ _ _, rfl, ⟨_, rfl⟩, _, rfl⟩

/-- The last TX_UNIT of a burst enters sleep with the button LOW by then. -/
theorem witness_NoLostWake :
    ∃ s t, s.BlockInv ∧ exec .txUnit s = .next t ∧ s.ctrlState ≠ .sleeping ∧ t.ctrlState = .sleeping ∧ t.buttonN = false := by
  refine ⟨{ bursting 1083 with tkNow := 2000, idleTs := 1000, nowMs := 2447, buttonN := false }, _, ?_, rfl, ?_, ?_, ?_⟩
  · have h := inv_bursting 1083 (by decide)
    exact ⟨h.1, h.2, h.3, (fun hs => nomatch hs), h.5, h.6, h.7, h.8⟩
  · decide
  · decide +kernel
  · decide +kernel

/-- The permit is set by WAKE and by a heartbeat TICK, cleared by the last TX_UNIT. -/
theorem witness_PermitWriters :
    (∃ t, exec .wake (asleep 0 false true) = .next t ∧ t.txAllowed = true) ∧ (asleep 0 false true).txAllowed = false ∧
    (∃ t, exec .tick (ticking false true false 1000 0) = .next t ∧ t.txAllowed = true) ∧
    (ticking false true false 1000 0).BlockInv ∧ (ticking false true false 1000 0).txAllowed = false ∧
    (∃ t, exec .txUnit (bursting 1083) = .next t ∧ t.txAllowed = false) ∧ (bursting 1083).BlockInv ∧
    (bursting 1083).txAllowed = true :=
  ⟨⟨_, rfl, rfl⟩, rfl, ⟨_, rfl, rfl⟩, by constructor <;> decide, rfl, ⟨_, rfl, by decide +kernel⟩,
    inv_bursting _ (by decide), rfl⟩

/-- NowWriters, TimestampWriters, ArmingWriters: a next state by WAKE, by TICK and by SLEEP_ENTER. -/
theorem witness_Writers :
    (∃ t, exec .wake (asleep 777 false true) = .next t ∧ t.idleTs = 777) ∧
    (∃ t, exec .tick (ticking false true false 1000 0) = .next t ∧ t.cooldownTs = 1000) ∧
    (∃ t, exec .tickB (phaseB true false 7000 1000) = .next t ∧ t.idleTs = 7000) ∧
    ∃ t, exec .sleepEnter (phaseB false false 2000 1000) = .next t ∧ t.irqBtnEn = true :=
  ⟨⟨_, rfl, rfl⟩, ⟨_, rfl, rfl⟩, ⟨_, rfl, by decide +kernel⟩, _, rfl, by decide +kernel⟩

theorem witness_FirstTickAfterReset :
    (∃ t, exec .reset (bursting 500) = .next t) ∧ 0 < params.cooldownMs ∧ 999 < params.cooldownMs ∧
    999 < params.idleMs :=
  ⟨⟨_, rfl⟩, by decide, by decide, by decide⟩

theorem witness_ResetMeetsInvariants : State.reset.atReset [] true true 0 := rfl

theorem witness_StepKeepsInvariants :
    (bursting 1083).BlockInv ∧ ∃ t, step ((bursting 1083).withFetchWord 8 0x40) = .next t ∧ t.txBusy = false :=
  ⟨inv_bursting _ (by decide), _, rfl, by decide +kernel⟩

/-- Other parameters: a block of one repetition, at a step that changes its pins. -/
theorem witness_InvariantsForAnyParameters :
    small.wf = true ∧ State.BlockInv { State.resetAt small with script := [⟨0x61, 0⟩] } ∧
    ∃ t, State.advance { State.resetAt small with script := [⟨0x61, 0⟩] } = .next t ∧ t.buttonN = false :=
  ⟨by decide, by constructor <;> simp [State.resetAt, State.awake], _, rfl, rfl⟩

/-- A state after a step from reset: a button pressed. -/
theorem witness_ReachableStatesMeetR42 : ∃ s, Reachable s ∧ s.buttonN = false :=
  ⟨_, .next (s := (State.reset.setPins true true).feed [⟨0x61, 0⟩] 0) (.start rfl) rfl, rfl⟩

/-- An offer that runs, one that faults, one that is dropped; nothing to take; table words, an internal event's and a wire symbol's among them. -/
theorem witness_StepRunsDecoded :
    (decode params false (.outside 0x20) = .ok .msTick ∧ exec .msTick rest = .next { rest with nowMs := 1 } ∧
      exec .msTick (bursting 1084) = .fault .reservedState ∧ decode params false (.outside 0x50) = .ok .wake ∧
      exec .wake rest = .refused .notEnabled) ∧
    (rest.withFetchWord 8 0x20).fetch = some (.outside 0x20, rest) ∧
    (rest.part = none ∧ rest.script = []) ∧ (rest.withFetchWord 8 0x20).script = [⟨0x20, 0⟩] ∧
    (rest.withFetchWord 8 0xB0).part = some (.inside 0xB0) ∧ tableOffer 8 0x20 = some (.outside 0x20) ∧
    tableOffer 8 0xB0 = some (.inside 0xB0) ∧
    (rest.withFetchWord 8 0b10).part = some (.wire [true, false]) ∧ tableOffer 8 0b10 = some (.wire [true, false]) :=
  ⟨⟨rfl, rfl, rfl, rfl, rfl⟩, rfl, ⟨rfl, rfl⟩, rfl, rfl, rfl, rfl, rfl, rfl⟩

theorem witness_ScriptLinesReadBack : spelling .wake = some "WAKE".toList := by decide

theorem witness_WaitAndTickAt :
    rest.Legal ∧ rest.nowMs.toNat ≤ 0 ∧ rest.nowMs.toNat ≤ 2 ^ 32 - 1 ∧ 2 ^ 32 - 1 < 2 ^ 32 :=
  ⟨by decide, by decide, by decide, by decide⟩

/-- With 447 and with 448 MS_TICKs. -/
theorem witness_RunBurstAndSleepWake :
    (bursting 0).BlockInv ∧ (bursting 0).txBusy = true ∧ (bursting 0).txSlot = 0 ∧
    isRunBurst (List.replicate 447 .msTick ++ List.replicate 1084 .txUnit) = true ∧
    isRunBurst (List.replicate 448 .msTick ++ List.replicate 1084 .txUnit) = true ∧
    (asleep 0 true true).BlockInv ∧ (asleep 0 true true).ctrlState = .sleeping := by
  refine ⟨inv_bursting _ (by decide), rfl, rfl, ?_, ?_, inv_asleep _ _ _, rfl⟩ <;> decide +kernel

end Sys2Proof.Tests
end

/-! SUPPORT. What a request does that is not enabled, and the width of `tx_slot` (00_scope.md R8, R12; 10_state.md R28). -/

namespace Sys2Proof.Machine

open Sys2Proof.Config (Params params)

variable {p : Params}

/-- At a legal state an operation other than RESET is refused exactly where it is not enabled (R12). -/
theorem exec_notEnabled_iff {i : Instr} {s : State} (hl : s.Legal) (hi : i ≠ .reset) :
    exec i s = .refused .notEnabled ↔ ¬ s.enabled i = true := by
  simp [exec_eq_refused_iff, reservedState_eq_false_iff.2 hl, hi]

/-- The step is the decoded operation's answer, but that an operation that is not enabled is dropped. -/
theorem step_of_decode {s u : State} {o : Offer} {i : Instr} (hf : s.fetch = some (o, u))
    (hd : decode params u.inTrailer o = .ok i) : step s = dropIfNotEnabled u (exec i u) := by
  rw [step_of_fetch hf, hd]

/-- With no part under way the machine takes the environment's first word (log 1). -/
theorem fetch_of_script {s : State p} {st : Stimulus} {rest : List Stimulus} (hp : s.part = none)
    (hs : s.script = st :: rest) : s.fetch = some (.outside st.word, s.feed rest st.rnd) := by
  rw [State.fetch, hp, hs]

/-- A part under way is taken before any word of the environment (logs 5 and 6). -/
theorem fetch_of_part {s : State p} {q : Part} (hq : s.part = some q) :
    s.fetch = some (q.offer, s.setPart none) := by
  rw [State.fetch, hq]

/-- With no part and no word there is nothing to take (log 3). -/
theorem fetch_of_empty {s : State p} (hp : s.part = none) (hs : s.script = []) : s.fetch = none := by
  rw [State.fetch, hp, hs]

/-- No width below `slotWidth` holds the burst's last slot (R28). -/
theorem slotWidth_le_of_lt_two_pow (h : 1 < burstT p) {w : Nat} (hw : burstT p - 1 < 2 ^ w) : slotWidth p ≤ w :=
  (Nat.log2_lt (by omega)).2 hw

/-- Consecutive slots start one T apart (R130). -/
theorem slotStart_succ (p : Params) (t0 k : Nat) : slotStart p t0 (k + 1) = slotStart p t0 k + p.tUs := by
  simp only [slotStart, micros, Nat.succ_mul, Nat.add_assoc]

end Sys2Proof.Machine

/-! SUPPORT. The invariants of 10_state.md R42, of a block with any parameters: what they come to in an awake and in a sleeping state, and that every operation keeps them. -/

namespace Sys2Proof.Machine

open Sys2Proof.Config (Params)

variable {p : Params} {s t : State p}

theorem State.IsAwake.ne_sleeping (h : s.IsAwake) : s.ctrlState ≠ .sleeping := by
  rcases h with h | h <;> simp [h]

theorem State.IsAwake.ne_reserved (h : s.IsAwake) : s.ctrlState ≠ .reserved11 := by
  rcases h with h | h <;> simp [h]

/-- In an awake state: both wake interrupts detached, the power on, and a burst within its slots and with its permit. -/
theorem blockInv_iff_of_awake (ha : s.IsAwake) :
    s.BlockInv ↔ (s.irqBtnEn = false ∧ s.irqChgEn = false) ∧ (s.adcEn = true ∧ s.ledOff = false) ∧
      (s.txBusy = true → s.txSlot.toNat < burstT p ∧ s.txAllowed = true) := by
  have hns := ha.ne_sleeping
  constructor
  · intro h
    exact ⟨⟨by simpa [hns] using h.btnArmed, by simpa [hns] using h.chgArmed⟩, h.awakePowered (awake_iff.2 ha),
      fun hb => ⟨(h.busyAwake hb).2, h.busyPermit hb⟩⟩
  · rintro ⟨⟨hbtn, hchg⟩, hpow, hburst⟩
    exact {
      btnArmed := by simp [hbtn, hns]
      chgArmed := by simp [hchg, hns]
      busyAwake := fun hb => ⟨awake_iff.2 ha, (hburst hb).1⟩
      asleepQuiet := fun hc => absurd hc hns
      awakePowered := fun _ => hpow
      notReserved := ha.ne_reserved
      busyPermit := fun hb => (hburst hb).2
      asleepNoPermit := fun hc => absurd hc hns }

/-- A sleeping state meets the invariants with both wake interrupts armed, no burst, the power off and no permit. -/
theorem blockInv_of_sleeping (hc : s.ctrlState = .sleeping) (hirq : s.irqBtnEn = true ∧ s.irqChgEn = true)
    (hb : s.txBusy = false) (hpow : s.adcEn = false ∧ s.ledOff = true) (hp : s.txAllowed = false) : s.BlockInv where
  btnArmed := by simp [hirq, hc]
  chgArmed := by simp [hirq, hc]
  busyAwake := by simp [hb]
  asleepQuiet _ := ⟨hb, by simp [State.txO, hb], hpow⟩
  awakePowered := by simp [State.awake, hc]
  notReserved := by simp [hc]
  busyPermit := by simp [hb]
  asleepNoPermit _ := hp

/-- The registers the invariants speak of; they read `tx_payload` only through `tx_o`, which is 0 in sleep without it. -/
def State.invRegisters (s : State p) : CtrlState × Bool × Bool × Bool × Bool × Slot p × Bool × Bool :=
  (s.ctrlState, s.txAllowed, s.irqBtnEn, s.irqChgEn, s.txBusy, s.txSlot, s.adcEn, s.ledOff)

/-- What writes none of those registers keeps the invariants. -/
theorem State.BlockInv.congr (h : s.BlockInv) (e : t.invRegisters = s.invRegisters) : t.BlockInv := by
  simp only [State.invRegisters, Prod.mk.injEq] at e
  obtain ⟨hctrl, hpermit, hbtn, hchg, hbusy, hslot, hadc, hled⟩ := e
  have hawake : t.awake = s.awake := by simp only [State.awake, hctrl]
  exact {
    btnArmed := by rw [hbtn, hctrl, h.btnArmed]
    chgArmed := by rw [hchg, hctrl, h.chgArmed]
    busyAwake := by rw [hbusy, hawake, hslot]; exact h.busyAwake
    asleepQuiet := by
      intro hc
      obtain ⟨hb, -, hpow⟩ := h.asleepQuiet (hctrl ▸ hc)
      rw [hbusy, hadc, hled]
      exact ⟨hb, by simp [State.txO, hbusy, hb], hpow⟩
    awakePowered := by rw [hawake, hadc, hled]; exact h.awakePowered
    notReserved := by rw [hctrl]; exact h.notReserved
    busyPermit := by rw [hbusy, hpermit]; exact h.busyPermit
    asleepNoPermit := by rw [hctrl, hpermit]; exact h.asleepNoPermit }

/-- Under the invariants a burst runs in an awake state. -/
theorem State.BlockInv.isAwake_of_busy (h : s.BlockInv) (hb : s.txBusy = true) : s.IsAwake :=
  awake_iff.1 (h.busyAwake hb).1

theorem resetAt_blockInv (p : Params) : (State.resetAt p).BlockInv :=
  (blockInv_iff_of_awake (.inl rfl)).2 ⟨⟨rfl, rfl⟩, ⟨rfl, rfl⟩, fun hb => nomatch hb⟩

/-- RESET, from any state (R210). -/
theorem doReset_blockInv (s : State p) : s.doReset.BlockInv := (resetAt_blockInv p).congr rfl

/-- Granting the permit keeps the invariants of an awake state (R153, R22). -/
theorem State.BlockInv.grant (h : s.BlockInv) (ha : s.IsAwake) (n : Millis p) :
    State.BlockInv { s with txAllowed := true, cooldownTs := n } := by
  obtain ⟨hirq, hpow, hburst⟩ := (blockInv_iff_of_awake ha).1 h
  exact (blockInv_iff_of_awake (s := { s with txAllowed := true, cooldownTs := n }) ha).2
    ⟨hirq, hpow, fun hb => ⟨(hburst hb).1, rfl⟩⟩

/-- TX_START at its place begins a burst at slot 0, which is below `BURST_T` (R125). -/
theorem State.BlockInv.txStart (h : s.BlockInv) (hreps : 0 < p.reps) (ha : s.IsAwake) (hp : s.txAllowed = true) :
    s.txStart.BlockInv := by
  obtain ⟨hirq, hpow, -⟩ := (blockInv_iff_of_awake ha).1 h
  exact (blockInv_iff_of_awake (s := s.txStart) ha).2
    ⟨hirq, hpow, fun _ => ⟨by simpa [txStart_eq] using burstT_pos hreps, hp⟩⟩

/-- SLEEP_ENTER, where no burst runs and no permit is held (R160). -/
theorem sleepEnter_blockInv (hb : s.txBusy = false) (hp : s.txAllowed = false) : s.sleepEnter.BlockInv :=
  blockInv_of_sleeping rfl ⟨rfl, rfl⟩ hb ⟨rfl, rfl⟩ hp

/-- Moving between the awake sub-states keeps the invariants (R155). -/
theorem State.BlockInv.setAwake (h : s.BlockInv) (ha : s.IsAwake) {c : CtrlState}
    (hc : c = .awakeIdle ∨ c = .awakeActive) (n : Millis p) :
    State.BlockInv { s with idleTs := n, ctrlState := c } :=
  (blockInv_iff_of_awake hc).2 ((blockInv_iff_of_awake ha).1 h)

/-- TICK_B at its place (R155). -/
theorem State.BlockInv.tickB (h : s.BlockInv) (ha : s.IsAwake) (hb : s.txBusy = false) (hp : s.txAllowed = false) :
    s.tickB.BlockInv := by
  rcases tickB_cases s with ⟨-, e⟩ | ⟨-, -, e⟩ | ⟨-, -, e⟩ <;> rw [e]
  · exact h.setAwake ha (.inr rfl) _
  · exact sleepEnter_blockInv hb hp
  · exact h.setAwake ha (.inl rfl) _

/-- TX_END: the burst and its permit go together, so phase B finds its place (R128). -/
theorem State.BlockInv.txEnd (h : s.BlockInv) (ha : s.IsAwake) : s.txEnd.BlockInv := by
  obtain ⟨hirq, hpow, -⟩ := (blockInv_iff_of_awake ha).1 h
  have hcleared : ((s.setBusy false).setPermit false).BlockInv :=
    (blockInv_iff_of_awake (s := (s.setBusy false).setPermit false) ha).2 ⟨hirq, hpow, fun hb => nomatch hb⟩
  exact hcleared.tickB ha rfl rfl

/-- Moving a burst to another of its slots keeps the invariants. -/
theorem State.BlockInv.moveSlot (h : s.BlockInv) (ha : s.IsAwake) {x : Slot p} (hx : x.toNat < burstT p) :
    State.BlockInv { s with txSlot := x } := by
  obtain ⟨hirq, hpow, hburst⟩ := (blockInv_iff_of_awake ha).1 h
  exact (blockInv_iff_of_awake (s := { s with txSlot := x }) ha).2 ⟨hirq, hpow, fun hb => ⟨hx, (hburst hb).2⟩⟩

/-- TX_UNIT in a burst (R127). -/
theorem State.BlockInv.txUnit (h : s.BlockInv) (hb : s.txBusy = true) : s.txUnit.BlockInv := by
  have ha := h.isAwake_of_busy hb
  rcases txUnit_cases s with ⟨hlt, e⟩ | ⟨-, e⟩ <;> rw [e]
  · exact h.moveSlot ha (slot_succ_toNat hlt ▸ hlt)
  · exact h.txEnd ha

/-- TICK where it is enabled: a burst starts with the permit, or phase B runs without one (R152 to R154). -/
theorem State.BlockInv.tick (h : s.BlockInv) (hreps : 0 < p.reps) (ha : s.IsAwake) (hb : s.txBusy = false) :
    s.tick.BlockInv := by
  have hsnap : s.takeSnapshot.BlockInv := h.congr rfl
  rcases tick_cases s with ⟨-, e⟩ | ⟨-, hp, e⟩ | ⟨-, hp, e⟩ <;> rw [e]
  · exact (hsnap.grant ha s.nowMs).txStart hreps ha rfl
  · exact hsnap.txStart hreps ha hp
  · exact hsnap.tickB ha hb hp

/-- WAKE, where no burst runs (R185). -/
theorem takeWake_blockInv (hb : s.txBusy = false) : s.takeWake.BlockInv :=
  (blockInv_iff_of_awake (.inl rfl)).2
    ⟨⟨rfl, rfl⟩, ⟨rfl, rfl⟩, fun hbusy => absurd (hb.symm.trans hbusy) Bool.false_ne_true⟩

/-- A wire symbol moves the slot within the burst or ends the burst (log 6). -/
theorem State.BlockInv.perform_symbol (h : s.BlockInv) {i : Instr} (hk : i.kind = .symbol)
    (e : s.perform i = .next t) : t.BlockInv := by
  obtain ⟨-, hb, ⟨hlt, rfl⟩ | ⟨hend, -, rfl⟩⟩ := perform_symbol_cases hk e
  · exact h.moveSlot (h.isAwake_of_busy hb) (slot_add_toNat hlt ▸ hlt)
  · have ha := h.isAwake_of_busy hb
    have hpos : 0 < burstT p := Nat.zero_lt_of_lt (h.busyAwake hb).2
    have hlast : burstT p - 1 < burstT p := Nat.sub_one_lt_of_lt hpos
    refine (h.moveSlot ha ?_).txEnd ha
    rwa [BitVec.toNat_ofNat, Nat.mod_eq_of_lt (lt_two_pow_slotWidth hlast)]

/-- Every operation that answers a next state keeps the invariants, of a block that sends at least one repetition. -/
theorem State.BlockInv.perform (h : s.BlockInv) (hreps : 0 < p.reps) {i : Instr} (e : s.perform i = .next t) :
    t.BlockInv := by
  by_cases hk : i.kind = .symbol
  · exact h.perform_symbol hk e
  obtain ⟨-, he, rfl⟩ := perform_eq_next_iff.1 e
  cases i
  case reset => exact doReset_blockInv s
  case msTick | setInputs | buildPayload => exact h.congr rfl
  case tick =>
    obtain ⟨ha, hb⟩ := tickEnabled_iff.1 he
    exact h.tick hreps ha hb
  case txUnit => exact h.txUnit he
  case wake => exact takeWake_blockInv (h.asleepQuiet (wakeEnabled_iff.1 he).1).1
  case txStart =>
    obtain ⟨ha, -, hp⟩ := txStartPlace_iff.1 he
    exact h.txStart hreps ha hp
  case txEnd => exact h.txEnd (h.isAwake_of_busy (txEndPlace_iff.1 he).1)
  case tickB =>
    obtain ⟨ha, hb, hp⟩ := tickBPlace_iff.1 he
    exact h.tickB ha hb hp
  case sleepEnter =>
    obtain ⟨-, -, hb, hp⟩ := sleepEnterPlace_iff.1 he
    exact sleepEnter_blockInv hb hp
  all_goals exact absurd rfl hk

/-- Taking an offer keeps the invariants. -/
theorem State.BlockInv.fetch (h : s.BlockInv) {o : Offer} (hf : s.fetch = some (o, t)) : t.BlockInv := by
  rw [fetch_keeps hf]
  exact h.congr rfl

/-- A step that goes on keeps the invariants, whatever is offered (R42). -/
theorem State.BlockInv.advance (h : s.BlockInv) (hreps : 0 < p.reps) (e : s.advance = .next t) : t.BlockInv := by
  rcases advance_next_cases e with ⟨-, rfl⟩ | ⟨o, u, hf, ⟨i, -, hi⟩ | ⟨-, rfl⟩⟩
  · exact h
  · exact (h.fetch hf).perform hreps hi
  · exact h.fetch hf

end Sys2Proof.Machine

/-! PROOFS. The statements of 00_scope.md: the invariants for any parameters, events that are not enabled, the derived lengths, the step and the defaults. -/

namespace Sys2Proof.Proofs

open Sys2Proof.Machine
open Sys2Proof.Config (Params params)

/-- Settles O60: R42's invariants at reset and under every step, by one lemma for each operation; that REPS is positive puts a burst's first slot below `BURST_T`. -/
theorem invariantsForAnyParameters : Obligations.InvariantsForAnyParameters := by
  intro p hwf
  have hreps : 0 < p.reps := by
    simp only [Config.Params.wf, Config.Params.sendsRepetition, Bool.and_eq_true, decide_eq_true_eq] at hwf
    exact hwf.1.1
  exact ⟨resetAt_blockInv p, fun s t h e => h.advance hreps e⟩

/-- Settles O41: the refusal is the negated enabling condition, and the step drops a refused offer. -/
theorem disabledEventsDoNotOccur : Obligations.DisabledEventsDoNotOccur := by
  intro s hl
  refine ⟨?_, ?_, ?_, ?_⟩
  · rw [exec_notEnabled_iff hl (by decide)]
    exact not_congr tickEnabled_iff
  · rw [exec_notEnabled_iff hl (by decide)]
    exact iff_of_eq (Bool.not_eq_true _)
  · rw [exec_notEnabled_iff hl (by decide)]
    exact not_congr wakeEnabled_iff
  · intro i rest st hp hs hd he
    rw [step_of_decode (fetch_of_script hp hs) hd, he]
    rfl

/-- Settles O9: the numbers at the defaults by evaluation, the slots' times one T apart, and the width by the base-2 logarithm. -/
theorem derivedLengths : Obligations.DerivedLengths := by
  refine ⟨preT_params, rfl, dataT_params, repT_params, burstT_params, rfl, rfl, ?_, slotWidth_params, ?_⟩
  · intro t0 k
    exact ⟨by simp [slotStart, micros], slotStart_succ params t0 k, by rw [burstEnd, burstT_params, slotStart]⟩
  · intro p h
    exact ⟨lt_two_pow_slotWidth (by omega), fun w hw => slotWidth_le_of_lt_two_pow h hw⟩

/-- Settles O55: one lemma for each thing the machine can take, and the decoded operation's answer. -/
theorem stepRunsDecoded : Obligations.StepRunsDecoded := by
  refine ⟨?_, fun s st rest hp hs => fetch_of_script hp hs, fun s q hq => fetch_of_part hq,
    fun s hp hs => step_of_none (fetch_of_empty hp hs), fun s nbits w o h => withFetchWord_fetch h⟩
  intro s u o i hf hd
  rw [step_of_decode hf hd]
  exact ⟨fun t ht => by rw [ht]; rfl, fun r hr => by rw [hr]; rfl, fun he => by rw [he]; rfl⟩

/-- Settles O59: `exec` meaning by meaning, and with it `step`. -/
theorem execIsBlockAtDefaults : Obligations.ExecIsBlockAtDefaults := ⟨exec_eq, step_eq⟩

end Sys2Proof.Proofs

/-! SUPPORT. What each operation writes, said once for the statements on who writes what (10_state.md R22 to R25), and that no operation tells the two awake sub-states apart (R21, R163). -/

namespace Sys2Proof.Machine

open Sys2Proof.Config (Params params)

variable {p : Params}

/-! Every state reachable from RESET meets the invariants (R42). -/

/-- The pins, the script and `rnd_i` are none of the registers the invariants speak of, so a run may start with any. -/
theorem State.atReset.blockInv {s : State} {script : List Stimulus} {b c : Level} {rnd : BitVec 8}
    (h : s.atReset script b c rnd) : s.BlockInv :=
  (resetAt_blockInv params).congr (h ▸ rfl)

theorem State.BlockInv.step {s t : State} (h : s.BlockInv) (e : step s = .next t) : t.BlockInv :=
  h.advance (by decide) ((step_eq s).symm.trans e)

theorem Reachable.blockInv {s : State} (h : Reachable s) : s.BlockInv := by
  induction h with
  | start h => exact h.blockInv
  | next _ e ih => exact ih.step e

theorem CtrlState.code_ne_three {c : CtrlState} (h : c ≠ .reserved11) : c.code ≠ 0b11#2 := by
  cases c
  case reserved11 => exact absurd rfl h
  all_goals decide

/-! What each operation but RESET answers where it goes on. -/

/-- The next state of an operation but RESET, with TICK split by the permit and a wire symbol taken as the TX_UNITs it is: a burst moves on, or ends with a phase B. -/
inductive Effect (s : State) : Instr → State → Prop where
  | msTick : Effect s .msTick s.msTick
  | setInputs (b c : Level) : Effect s (.setInputs b c) (s.setPins b c)
  | buildPayload : Effect s .buildPayload s.buildPayload
  | wake : Effect s .wake s.takeWake
  | heartbeatBurst : s.HeartbeatHolds →
      Effect s .tick ({ s.takeSnapshot with txAllowed := true, cooldownTs := s.nowMs } : State).txStart
  | permitBurst : ¬ s.HeartbeatHolds → s.txAllowed = true → Effect s .tick s.takeSnapshot.txStart
  | tickFinishes : ¬ s.HeartbeatHolds → s.txAllowed = false → Effect s .tick s.takeSnapshot.tickB
  | txStart : Effect s .txStart s.txStart
  | burstGoesOn {i : Instr} (x : Slot params) : s.txBusy = true → i = .txUnit ∨ i.kind = .symbol → Effect s i { s with txSlot := x }
  | burstEnds {i : Instr} (x : Slot params) : s.txBusy = true → i ∈ [.txUnit, .txEnd, .pktGap] →
      Effect s i (State.txEnd { s with txSlot := x })
  | tickB : s.txAllowed = false → Effect s .tickB s.tickB
  | sleepEnter : Effect s .sleepEnter s.sleepEnter

theorem tick_effect (s : State) : Effect s .tick s.tick := by
  rcases tick_cases s with ⟨hh, e⟩ | ⟨hh, hp, e⟩ | ⟨hh, hp, e⟩ <;> rw [e]
  · exact .heartbeatBurst hh
  · exact .permitBurst hh hp
  · exact .tickFinishes hh hp

theorem txUnit_effect {s : State} (hb : s.txBusy = true) : Effect s .txUnit s.txUnit := by
  rcases txUnit_cases s with ⟨-, e⟩ | ⟨-, e⟩ <;> rw [e]
  · exact .burstGoesOn _ hb (.inl rfl)
  · exact .burstEnds s.txSlot hb (by simp)

/-- What an operation but RESET answers is one of these effects. -/
theorem exec_effect {i : Instr} {s t : State} (hi : i ≠ .reset) (h : exec i s = .next t) : Effect s i t := by
  by_cases hk : i.kind = .symbol
  · obtain ⟨-, hb, ⟨-, rfl⟩ | ⟨rfl, -, rfl⟩⟩ := exec_symbol_cases hk h
    · exact .burstGoesOn _ hb (.inr hk)
    · exact .burstEnds _ hb (by simp)
  obtain ⟨-, he, rfl⟩ := exec_eq_next_iff.1 h
  cases i
  case reset => exact absurd rfl hi
  case msTick => exact .msTick
  case tick => exact tick_effect s
  case txUnit => exact txUnit_effect he
  case wake => exact .wake
  case setInputs b c => exact .setInputs b c
  case buildPayload => exact .buildPayload
  case txStart => exact .txStart
  case txEnd => exact .burstEnds s.txSlot (txEndPlace_iff.1 he).1 (by simp)
  case tickB => exact .tickB (tickBPlace_iff.1 he).2.2
  case sleepEnter => exact .sleepEnter
  all_goals exact absurd rfl hk

/-! What phase B writes and leaves (R155). -/

@[simp] theorem tickB_nowMs (s : State p) : s.tickB.nowMs = s.nowMs := (tickB_keeps s).1

@[simp] theorem tickB_cooldownTs (s : State p) : s.tickB.cooldownTs = s.cooldownTs := (tickB_keeps s).2.1

@[simp] theorem tickB_txAllowed (s : State p) : s.tickB.txAllowed = s.txAllowed := (tickB_keeps s).2.2.1

/-- The state a phase B leaves where its snapshot saw an input: `idle_ts` is the snapshot's time, in AWAKE_ACTIVE (R155). -/
abbrev State.IdleRefreshed (t : State p) : Prop :=
  t.idleTs = t.tkNow ∧ t.ctrlState = .awakeActive ∧ (t.tkBtn = true ∨ t.tkChg = true)

theorem tickB_idleTs (s : State p) : s.tickB.idleTs = s.idleTs ∨ s.tickB.IdleRefreshed := by
  rcases tickB_cases s with ⟨ha, e⟩ | ⟨-, -, e⟩ | ⟨-, -, e⟩ <;> rw [e]
  · exact .inr ⟨rfl, rfl, inputActive_iff.1 ha⟩
  · exact .inl rfl
  · exact .inl rfl

theorem txEnd_idleTs (s : State p) : s.txEnd.idleTs = s.idleTs ∨ s.txEnd.IdleRefreshed := tickB_idleTs _

/-- The permit stays, or is set by WAKE or a heartbeat, or goes with the burst (R22). -/
theorem Effect.txAllowed {i : Instr} {s t : State} (h : Effect s i t) :
    t.txAllowed = s.txAllowed ∨
    (t.txAllowed = true ∧ (i = .wake ∨ (i = .tick ∧ s.HeartbeatHolds))) ∨
    (t.txAllowed = false ∧ s.txBusy = true ∧ t.txBusy = false) := by
  cases h with
  | wake => exact .inr (.inl ⟨rfl, .inl rfl⟩)
  | heartbeatBurst hh => exact .inr (.inl ⟨rfl, .inr ⟨rfl, hh⟩⟩)
  | burstEnds x hb =>
    obtain ⟨hbusy, hpermit, -⟩ := txEnd_fields ({ s with txSlot := x } : State)
    exact .inr (.inr ⟨hpermit, hb, hbusy⟩)
  | tickFinishes | tickB => exact .inl (tickB_txAllowed _)
  | _ => exact .inl rfl

/-! The awake sub-states. -/

/-- The same state, or two that differ only in AWAKE_IDLE against AWAKE_ACTIVE. -/
def AwakeTwins (t u : State p) : Prop := u = t ∨ (t.ctrlState = .awakeIdle ∧ u = t.setCtrl .awakeActive)

theorem AwakeTwins.sameButCtrl {t u : State p} (h : AwakeTwins t u) :
    u = { t with ctrlState := u.ctrlState } ∧ (t.ctrlState = .sleeping ↔ u.ctrlState = .sleeping) := by
  obtain rfl | ⟨hc, rfl⟩ := h
  · exact ⟨rfl, .rfl⟩
  · exact ⟨rfl, by simp [hc]⟩

/-- Phase B writes `ctrl_state` on each of its ways and reads it on none (R155). -/
theorem tickB_setCtrl (s : State p) (c : CtrlState) : (s.setCtrl c).tickB = s.tickB := rfl

theorem AwakeTwins.txUnit {s u : State p} (h : AwakeTwins s u) : AwakeTwins s.txUnit u.txUnit := by
  obtain rfl | ⟨hc, rfl⟩ := h
  · exact .inl rfl
  rcases txUnit_cases s with ⟨hlt, e⟩ | ⟨hle, e⟩
  · exact .inr ⟨e ▸ hc, e ▸ if_pos hlt⟩
  · exact .inl (e ▸ if_neg (Nat.not_lt.2 hle))

theorem AwakeTwins.txUnits {s u : State p} (h : AwakeTwins s u) (n : Nat) :
    AwakeTwins (State.txUnits n s) (State.txUnits n u) := by
  induction n generalizing s u with
  | zero => exact h
  | succ n ih => exact ih h.txUnit

/-- With a permit at hand both start the burst in their own sub-state; without one phase B makes them one (R154). -/
theorem AwakeTwins.transmitOrFinish {s u : State p} (h : AwakeTwins s u) :
    AwakeTwins s.transmitOrFinish u.transmitOrFinish := by
  obtain rfl | ⟨hc, rfl⟩ := h
  · exact .inl rfl
  unfold State.transmitOrFinish
  cases hp : s.txAllowed
  · exact .inl (by simp [hp, tickB_setCtrl])
  · exact .inr ⟨by simpa [hp, txStart_eq] using hc, by simp [hp, txStart_eq, State.setCtrl]⟩

theorem AwakeTwins.heartbeat {s u : State p} (h : AwakeTwins s u) : AwakeTwins s.heartbeat u.heartbeat := by
  obtain rfl | ⟨hc, rfl⟩ := h
  · exact .inl rfl
  rcases heartbeat_cases s with ⟨hd, e⟩ | ⟨hd, e⟩
  · exact .inr ⟨e ▸ hc, e ▸ if_pos hd⟩
  · exact .inr ⟨e.symm ▸ hc, e.symm ▸ if_neg (ne_true_of_eq_false hd)⟩

section
variable {s : State p} (hc : s.ctrlState = .awakeIdle)
include hc

theorem awakeTwins_tick : AwakeTwins s.tick (s.setCtrl .awakeActive).tick :=
  have hsnap : AwakeTwins s.takeSnapshot (s.setCtrl .awakeActive).takeSnapshot := .inr ⟨hc, rfl⟩
  hsnap.heartbeat.transmitOrFinish

/-- Every operation's effect: those that write `ctrl_state` make the two states one, the others leave them twins. -/
theorem awakeTwins_effect (i : Instr) : AwakeTwins (s.effect i) ((s.setCtrl .awakeActive).effect i) := by
  have h : AwakeTwins s (s.setCtrl .awakeActive) := .inr ⟨hc, rfl⟩
  cases i
  case reset | wake | txEnd | tickB | sleepEnter => exact .inl rfl
  case msTick | setInputs | buildPayload | txStart => exact .inr ⟨hc, rfl⟩
  case tick => exact awakeTwins_tick hc
  case txUnit => exact h.txUnit
  case preCycle | syncGap | bit0 | bit1 | trailerBit | pktGap => exact h.txUnits _

theorem awake_setCtrl_awakeActive : (s.setCtrl .awakeActive).awake = s.awake := by
  simp [State.awake, hc]

theorem reservedState_setCtrl_awakeActive : (s.setCtrl .awakeActive).reservedState = s.reservedState := by
  simp only [State.reservedState, hc]
  rfl

theorem enabled_setCtrl_awakeActive (i : Instr) : (s.setCtrl .awakeActive).enabled i = s.enabled i := by
  have ha := awake_setCtrl_awakeActive hc
  have hplace : (s.setCtrl .awakeActive).tickBPlace = s.tickBPlace := by simp [State.tickBPlace, ha]
  cases i
  case tick => simp [State.enabled, State.tickEnabled, ha]
  case txStart => simp [State.enabled, State.txStartPlace, ha]
  case tickB => exact hplace
  case sleepEnter => exact congrArg ((!s.inputActive && s.idleDue) && ·) hplace
  case wake => simp [State.enabled, State.wakeEnabled, hc]
  all_goals rfl

end

end Sys2Proof.Machine

/-! PROOFS. The statements of 10_state.md: the invariants at reset, under every step and at every reachable state, who writes the permit, the time and the timestamps, and that the awake sub-state is not told apart. -/

namespace Sys2Proof.Proofs

open Sys2Proof.Machine

/-- Settles O53: the invariants hold of what the step takes, and every operation keeps them. -/
theorem stepKeepsInvariants : Obligations.StepKeepsInvariants := fun _ _ h e => h.step e

/-- Settles O54: by induction along the run the state meets the invariants, and R42's five items are among them. -/
theorem reachableStatesMeetR42 : Obligations.ReachableStatesMeetR42 := by
  intro s hs
  have h := hs.blockInv
  exact ⟨⟨h.btnArmed.trans h.chgArmed.symm, h.btnArmed⟩,
    fun hb => ⟨h.isAwake_of_busy hb, (h.busyAwake hb).2⟩,
    h.asleepQuiet,
    fun ha => h.awakePowered (awake_iff.2 ha),
    CtrlState.code_ne_three h.notReserved⟩

/-- Settles O36: both states are enabled and faulty alike, and each effect takes them to the same state or leaves them apart in the sub-state alone. -/
theorem idleActiveIndistinguishable : Obligations.IdleActiveIndistinguishable := by
  intro i s hc
  have hs : { s with ctrlState := .awakeActive } = s.setCtrl .awakeActive := rfl
  rw [hs]
  have hr := reservedState_setCtrl_awakeActive hc
  have he := enabled_setCtrl_awakeActive hc i
  cases h : exec i s with
  | next t =>
    obtain ⟨hlegal, henabled, rfl⟩ := exec_eq_next_iff.1 h
    rw [exec_eq_next_iff.2 ⟨hr ▸ hlegal, he ▸ henabled, rfl⟩]
    exact (awakeTwins_effect hc i).sameButCtrl
  | fault r =>
    obtain ⟨hi, hreserved, rfl⟩ := exec_eq_fault_iff.1 h
    rw [exec_eq_fault_iff.2 ⟨hi, hr ▸ hreserved, rfl⟩]
  | refused r =>
    obtain ⟨hi, hlegal, hdisabled, rfl⟩ := exec_eq_refused_iff.1 h
    rw [exec_eq_refused_iff.2 ⟨hi, hr ▸ hlegal, he ▸ hdisabled, rfl⟩]

/-- Settles O45: what sets the permit is WAKE or the heartbeat, and what clears it is a burst's end. -/
theorem permitWriters : Obligations.PermitWriters := by
  intro i s t _ hi h
  obtain hkept | ⟨hset, hcause⟩ | ⟨hcleared, hend⟩ := (exec_effect hi h).txAllowed
  · rw [hkept]
    exact ⟨(fun h0 h1 => nomatch h0.symm.trans h1), (fun h1 h0 => nomatch h0.symm.trans h1)⟩
  · exact ⟨fun _ _ => hcause, (fun _ h0 => nomatch h0.symm.trans hset)⟩
  · exact ⟨(fun _ h1 => nomatch hcleared.symm.trans h1), fun _ _ => hend⟩

/-- Settles O46: of the operations' effects only MS_TICK's writes the time. -/
theorem nowWriters : Obligations.NowWriters := by
  intro i s t hm hi h
  cases exec_effect hi h with
  | msTick => exact absurd rfl hm
  | tickFinishes | tickB | burstEnds => exact tickB_nowMs _
  | _ => rfl

/-- Settles O47: a phase B refreshes `idle_ts` where it saw an input, the heartbeat restarts the cooldown, WAKE does both. -/
theorem timestampWriters : Obligations.TimestampWriters := by
  intro i s t hi h
  cases exec_effect hi h with
  | wake => exact ⟨.inr (.inl ⟨rfl, rfl⟩), .inr (.inl ⟨rfl, rfl⟩)⟩
  | heartbeatBurst hh => exact ⟨.inl rfl, .inr (.inr ⟨rfl, hh, rfl⟩)⟩
  | tickFinishes =>
    exact ⟨(tickB_idleTs s.takeSnapshot).imp_right fun ht => .inr ⟨by simp, ht⟩, .inl (tickB_cooldownTs _)⟩
  | tickB => exact ⟨(tickB_idleTs s).imp_right fun ht => .inr ⟨by simp, ht⟩, .inl (tickB_cooldownTs _)⟩
  | burstEnds x _ hmem =>
    exact ⟨(txEnd_idleTs _).imp_right fun ht => .inr ⟨.tail _ (.tail _ hmem), ht⟩, .inl (tickB_cooldownTs _)⟩
  | _ => exact ⟨.inl rfl, .inl rfl⟩

/-- Settles O52: the reset table's registers meet the invariants, which do not read the pins, `rnd_i` or the script. -/
theorem resetMeetsInvariants : Obligations.ResetMeetsInvariants := fun _ _ _ _ _ h => h.blockInv

end Sys2Proof.Proofs

/-! SUPPORT. The two time bases (20_memory.md R60): MS_TICK commutes with a TX_UNIT, and a TX_UNIT of a burst leaves no reserved code. -/

namespace Sys2Proof.Machine

open Sys2Proof.Config (Params)

variable {p : Params}

/-- Phase B runs on the tick's snapshot and not on `now_ms` (R152, R155), so a millisecond may pass before it or after it. -/
theorem tickB_msTick (s : State p) : s.msTick.tickB = s.tickB.msTick := by
  rcases tickB_cases s with ⟨ha, e⟩ | ⟨ha, hd, e⟩ | ⟨ha, hd, e⟩ <;> rw [e]
  · exact if_pos ha
  · exact (if_neg (ne_true_of_eq_false ha)).trans (if_pos hd)
  · exact (if_neg (ne_true_of_eq_false ha)).trans (if_neg (ne_true_of_eq_false hd))

theorem txEnd_msTick (s : State p) : s.msTick.txEnd = s.txEnd.msTick :=
  tickB_msTick ((s.setBusy false).setPermit false)

theorem txUnit_msTick (s : State p) : s.msTick.txUnit = s.txUnit.msTick := by
  rcases txUnit_cases s with ⟨hlt, e⟩ | ⟨hle, e⟩ <;> rw [e]
  · exact if_pos hlt
  · exact (if_neg (Nat.not_lt.2 hle)).trans (txEnd_msTick s)

/-- Phase B writes no reserved `ctrl_state` (R155, R182). -/
theorem tickB_ne_reserved (s : State p) : s.tickB.ctrlState ≠ .reserved11 := by
  rcases tickB_cases s with ⟨-, e⟩ | ⟨-, -, e⟩ | ⟨-, -, e⟩ <;> rw [e] <;> exact nofun

/-- A TX_UNIT stays inside the burst or ends it (R127, R128). -/
theorem legal_txUnit {s : State p} (h : s.Legal) : s.txUnit.Legal := by
  rcases txUnit_cases s with ⟨hlt, e⟩ | ⟨-, e⟩ <;> rw [e]
  · exact ⟨h.1, fun _ => slot_succ_toNat hlt ▸ hlt⟩
  · exact ⟨tickB_ne_reserved _, fun hb => nomatch (txEnd_fields s).1.symm.trans hb⟩

/-! What the two events answer at a legal state. -/

theorem exec_msTick_of_legal {s : State} (h : s.Legal) : exec .msTick s = .next s.msTick := exec_next h rfl rfl

theorem exec_txUnit_of_busy {s : State} (h : s.Legal) (hb : s.txBusy = true) : exec .txUnit s = .next s.txUnit :=
  exec_next h hb rfl

theorem exec_txUnit_of_not_busy {s : State} (h : s.Legal) (hb : s.txBusy = false) :
    exec .txUnit s = .refused .notEnabled :=
  (exec_notEnabled_iff h (by decide)).2 (ne_true_of_eq_false hb)

/-- At a state with a reserved code every event but RESET faults (R182). -/
theorem exec_of_not_legal {s : State} (h : ¬ s.Legal) {i : Instr} (hi : i ≠ .reset) :
    exec i s = .fault .reservedState :=
  exec_eq_fault_iff.2 ⟨hi, reservedState_eq_true_iff.2 h, rfl⟩

end Sys2Proof.Machine

/-! PROOFS. The statement of 20_memory.md: the order of the two time bases. -/

namespace Sys2Proof.Proofs

open Sys2Proof.Machine

/-- Settles O49: in a burst both orders run and the two effects commute; without one both refuse TX_UNIT, and from a reserved state both fault at the first event. -/
theorem timeBasesCommute : Obligations.TimeBasesCommute := by
  intro s
  by_cases hl : s.Legal
  · have hl' : s.msTick.Legal := hl
    cases hb : s.txBusy
    · simp only [execAll, exec_msTick_of_legal hl, exec_txUnit_of_not_busy hl hb, exec_txUnit_of_not_busy hl' hb]
    · simp only [execAll, exec_msTick_of_legal hl, exec_txUnit_of_busy hl hb, exec_txUnit_of_busy hl' hb,
        exec_msTick_of_legal (legal_txUnit hl), txUnit_msTick]
  · have hms : exec .msTick s = .fault .reservedState := exec_of_not_legal hl (by decide)
    have htx : exec .txUnit s = .fault .reservedState := exec_of_not_legal hl (by decide)
    simp only [execAll, hms, htx]

end Sys2Proof.Proofs

/-! SUPPORT. Event words and script lines (30_encoding.md R90 to R93): the decoder is the inverse of the word table, and what is read behind a script line's comment sign and before it. -/

namespace Sys2Proof.Machine

open Sys2Proof.Config (Params params)

/-! Event words. -/

/-- An event word is its code and, below it, its operand bits (R92). -/
theorem eventWord_split (ev : BitVec 8) : ev = ev.extractLsb' 4 4 ++ ev.extractLsb' 0 4 := by
  apply BitVec.eq_of_getLsbD_eq
  intro k hk
  rw [BitVec.getLsbD_append]
  by_cases h : k < 4
  · simp [h]
  · simp [h, show k - 4 < 4 by omega, show 4 + (k - 4) = k by omega]

/-- An event without operands has the word of its code with zeros below it (R92). -/
theorem eq_of_plainEvent {ev : BitVec 8} {i j : Instr} {code : Nat} (hc : (ev.extractLsb' 4 4).toNat = code)
    (h : plainEvent ev i = .ok j) : i = j ∧ ev = BitVec.ofNat 4 code ++ 0#4 := by
  unfold plainEvent at h
  split at h
  next hz =>
    refine ⟨Except.ok.inj h, ?_⟩
    rw [eventWord_split ev, hz, ← hc, BitVec.ofNat_toNat, BitVec.setWidth_eq]
    rfl
  next => cases h

/-- SET_INPUTS has its code, two zeros and the levels of the two pins (R92). -/
theorem setInputs_word :
    ∀ ev : BitVec 8, (ev.extractLsb' 4 4).toNat = 6 → ev.extractLsb' 2 2 = 0 →
      0b011000#6 ++ BitVec.ofBool (ev.getLsbD 1) ++ BitVec.ofBool (ev.getLsbD 0) = ev := by
  decide

/-- A word that decodes to an event is that event's word in the table (R92). -/
theorem eventWord_of_decodeEvent {ev : BitVec 8} {i : Instr} (h : decodeEvent ev = .ok i) : eventWord i = some ev := by
  unfold decodeEvent at h
  split at h
  case h_6 hc =>
    split at h
    next hz =>
      cases h
      exact congrArg some (setInputs_word ev hc hz)
    next => cases h
  case h_12 => cases h
  all_goals
    obtain ⟨rfl, rfl⟩ := eq_of_plainEvent ‹_› h
    rfl

/-- The word of an event in the table decodes to it (R92). -/
theorem decodeEvent_of_eventWord {ev : BitVec 8} {i : Instr} (h : eventWord i = some ev) : decodeEvent ev = .ok i := by
  cases i with
  | setInputs b c => cases b <;> cases c <;> cases h <;> rfl
  | _ => cases h <;> rfl

theorem eventWord_of_decodeOutside {ev : BitVec 8} {i : Instr} (h : decodeOutside ev = .ok i) :
    eventWord i = some ev := by
  unfold decodeOutside at h
  split at h
  next hd =>
    split at h
    · cases h
      exact eventWord_of_decodeEvent hd
    · cases h
  next => cases h

/-- R91: the code is reserved or internal, or a must-be-zero bit is set. -/
abbrev NoOutsideEvent (ev : BitVec 8) : Prop :=
  ev.extractLsb' 4 4 ∈ [0x0#4, 0x7#4, 0xD#4, 0xE#4, 0xF#4] ∨
  ev.extractLsb' 4 4 ∈ [0x8#4, 0x9#4, 0xA#4, 0xB#4, 0xC#4] ∨
  (ev.extractLsb' 4 4 = 0x6#4 ∧ ev.extractLsb' 2 2 ≠ 0) ∨
  (ev.extractLsb' 4 4 ≠ 0x6#4 ∧ ev.extractLsb' 0 4 ≠ 0)

/-- No external event's word is one that R91 refuses. -/
theorem eventWord_outside {ev : BitVec 8} {i : Instr} (hw : eventWord i = some ev) (hk : i.kind = .external) :
    ¬ NoOutsideEvent ev := by
  cases i with
  | setInputs b c => cases b <;> cases c <;> cases hw <;> decide
  | reset | msTick | tick | txUnit | wake => cases hw; decide
  | _ => cases hk

theorem decodeOutside_error {ev : BitVec 8} (h : NoOutsideEvent ev) : ∃ why, decodeOutside ev = .error why := by
  cases hd : decodeOutside ev with
  | error why => exact ⟨why, rfl⟩
  | ok i => exact absurd h (eventWord_outside (eventWord_of_decodeOutside hd) (decodeOutside_kind hd))

/-- The encoding reads back, for a TRAILER_BIT behind the payload bits and for a BIT1 before them (R79). -/
theorem decode_encode {trailer : Bool} {i : Instr} (ht : i = .trailerBit → trailer = true)
    (hb : i = .bit1 → trailer = false) : decode params trailer (encode params i) = .ok i := by
  cases i with
  | setInputs b c => cases b <;> cases c <;> rfl
  | trailerBit => rw [ht rfl]; rfl
  | bit1 => rw [hb rfl]; rfl
  | pktGap => cases trailer <;> rfl
  | syncGap => cases trailer <;> rfl
  | _ => rfl

/-! Parts: none is left to run after a step (R58, R90). -/

theorem part_of_fetch_none {s : State} (h : s.fetch = none) : s.part = none := by
  rcases fetch_cases s with ⟨q, -, e⟩ | ⟨hp, -⟩ | ⟨st, rest, hp, -⟩
  · cases h.symm.trans e
  · exact hp
  · exact hp

theorem step_part {s t : State} (h : step s = .next t) : t.part = none := by
  rcases step_next_cases h with ⟨hf, rfl⟩ | ⟨o, u, hf, ⟨i, -, hi⟩ | ⟨-, rfl⟩⟩
  · exact part_of_fetch_none hf
  · obtain ⟨-, -, rfl⟩ := exec_eq_next_iff.1 hi
    rw [effect_part, fetch_part hf, ite_self]
  · exact fetch_part hf

theorem Reachable.part {s : State} (h : Reachable s) : s.part = none := by
  cases h with
  | start h => rw [h]; rfl
  | next _ e => exact step_part e

/-! Script lines. -/

/-- A line that `stripComment` leaves whole: it holds no semicolon and does not end in a blank. -/
def Plain (line : List Char) : Prop := (∀ c ∈ line, c ≠ ';') ∧ line.getLast? ≠ some ' '

theorem Plain.dropBlanks {line : List Char} (h : Plain line) (blanks : Nat) :
    ((line ++ List.replicate blanks ' ').reverse.dropWhile (· = ' ')).reverse = line := by
  have hlast : line.reverse.dropWhile (· = ' ') = line.reverse := by
    cases hr : line.reverse with
    | nil => rfl
    | cons c cs =>
      have hc : c ≠ ' ' := by
        rintro rfl
        exact h.2 (by rw [← List.head?_reverse, hr, List.head?_cons])
      exact List.dropWhile_cons_of_neg (by simpa using hc)
  have hblank : ∀ c ∈ List.replicate blanks ' ', decide (c = ' ') = true :=
    fun c hc => decide_eq_true (List.eq_of_mem_replicate hc)
  rw [List.reverse_append, List.reverse_replicate, List.dropWhile_append_of_pos hblank, hlast, List.reverse_reverse]

theorem stripComment_plain {line : List Char} (h : Plain line) : stripComment line = line := by
  rw [stripComment, List.takeWhile_eq_self_iff.2 (by simpa using h.1)]
  simpa using h.dropBlanks 0

/-- Blanks and a comment behind a line are taken off (log 24). -/
theorem stripComment_comment {line : List Char} (h : Plain line) (blanks : Nat) (comment : List Char) :
    stripComment (line ++ List.replicate blanks ' ' ++ ';' :: comment) = line := by
  have hno : ∀ c ∈ line ++ List.replicate blanks ' ', decide (c ≠ ';') = true := by
    intro c hc
    rcases List.mem_append.1 hc with hc | hc
    · simpa using h.1 c hc
    · rw [List.eq_of_mem_replicate hc]; rfl
  rw [stripComment, List.takeWhile_append_of_pos hno, List.takeWhile_cons_of_neg (by simp), List.append_nil, h.dropBlanks]

theorem spelling_plain {i : Instr} {line : List Char} (h : spelling i = some line) : Plain line := by
  cases i with
  | setInputs b c => cases b <;> cases c <;> cases h <;> simp [Plain, pinDigit]
  | reset | msTick | tick | txUnit | wake => cases h; simp [Plain]
  | _ => cases h

/-- The spellings tell the script's events apart (R93). -/
theorem parseLine_of_spelling {i : Instr} {line : List Char} (h : spelling i = some (stripComment line)) :
    parseLine line = some i := by
  have hfind : scriptEvents.find? (fun j => decide (spelling j = spelling i)) = some i := by
    cases i with
    | setInputs b c => cases b <;> cases c <;> decide
    | reset | msTick | tick | txUnit | wake => decide
    | _ => cases h
  rwa [h] at hfind

theorem scriptable_iff_spelling (i : Instr) : i.scriptable = true ↔ ∃ line, spelling i = some line := by
  cases i <;> simp [Instr.scriptable, Instr.kind, spelling]

/-! The spreading constant (R71). -/

theorem mul_buttonSpread_copies :
    ∀ code : BitVec 4, code.setWidth 64 * buttonSpread = 0#28 ++ code ++ 0#28 ++ code := by
  decide

/-- With no upper part and no identifier the packing is the spread code (R100). -/
theorem packPayload_code (code : BitVec 4) : packPayload 0 code 0 = code.setWidth 64 * buttonSpread := by
  simp [packPayload]

end Sys2Proof.Machine

/-! SUPPORT. Where each wire symbol begins (30_encoding.md R75, R76), and the levels of a repetition and of a burst symbol by symbol (R78). -/

namespace Sys2Proof.Machine

open Sys2Proof.Config (Params params)

variable {p : Params} {P : Payload}

/-- R74, R75: the symbol of data bit `k` of a repetition, a trailer bit behind the payload bits. -/
def dataSymbol (P : Payload) (k : Nat) : Instr := if k < Config.payloadBits then bitSymbol P k else .trailerBit

theorem dataSymbol_payload {k : Nat} (h : k < 64) : dataSymbol P k = bitSymbol P k := if_pos h

theorem dataSymbol_trailer {k : Nat} (h : 64 ≤ k) : dataSymbol P k = .trailerBit := if_neg (Nat.not_lt.2 h)

theorem symbolLevels_bitSymbol (k : Nat) : symbolLevels p (bitSymbol P k) = [true, !wireBit P k, false] := by
  unfold bitSymbol
  cases wireBit P k <;> rfl

theorem symbolLevels_dataSymbol (k : Nat) : symbolLevels p (dataSymbol P k) = [true, !wireBit P k, false] := by
  by_cases h : k < 64
  · rw [dataSymbol_payload h, symbolLevels_bitSymbol]
  · rw [dataSymbol_trailer (Nat.not_lt.1 h), wireBit_trailer P (Nat.not_lt.1 h)]
    rfl

/-! Where the symbols begin. -/

theorem symbolStart_preamble {r : Nat} (h : r < preT p) :
    symbolStart p P r = if r % 2 = 0 then some .preCycle else none := if_pos h

/-- Behind the preamble the sync gap begins, where there is one, and nothing else before it is over. -/
theorem symbolStart_gap {r : Nat} (h : ¬ r < preT p) (h' : r < preT p + p.syncT) :
    symbolStart p P r = if r = preT p then some .syncGap else none := by
  have hpos : 0 < p.syncT := by omega
  simp only [symbolStart, h, h', hpos, and_true, if_true, if_false]

/-- Behind the sync gap a data symbol begins at every third slot, and the packet gap behind the last of them. -/
theorem symbolStart_after (d : Nat) : symbolStart p P (preT p + p.syncT + d) =
    if d < dataT p then (if d % 3 = 0 then some (dataSymbol P (d / 3)) else none)
    else if d = dataT p ∧ 0 < p.gapT then some .pktGap
    else none := by
  have hpre : ¬ preT p + p.syncT + d < preT p := by omega
  have hsync : ¬ (preT p + p.syncT + d = preT p ∧ 0 < p.syncT) := by omega
  have hafter : ¬ preT p + p.syncT + d < preT p + p.syncT := by omega
  have hd : preT p + p.syncT + d - (preT p + p.syncT) = d := by omega
  have hsym : (if d / 3 < Config.payloadBits then
      (if wireBit P (d / 3) then some Instr.bit1 else some .bit0) else some .trailerBit) = some (dataSymbol P (d / 3)) := by
    simp only [dataSymbol, bitSymbol, apply_ite some]
  simp only [symbolStart, hpre, hsync, hafter, hd, Config.bitT, hsym, Nat.add_left_cancel_iff, if_false]

/-- The first slot of data bit `k` of a repetition. -/
theorem symbolStart_data {k : Nat} (h : k < Config.payloadBits + p.trailerBits) :
    symbolStart p P (preT p + p.syncT + 3 * k) = some (dataSymbol P k) := by
  have hd : 3 * k < dataT p := by simp only [dataT, Config.bitT]; omega
  rw [symbolStart_after, if_pos hd, if_pos (Nat.mul_mod_right 3 k), Nat.mul_div_cancel_left k (by decide)]

/-- Each symbol has its place in the repetition, and begins nowhere else (R75). -/
theorem symbolStart_cases {r : Nat} {i : Instr} (h : symbolStart p P r = some i) :
    (∃ k, k < p.preCycles ∧ r = 2 * k ∧ i = .preCycle) ∨
    (r = preT p ∧ i = .syncGap) ∨
    (∃ k, k < Config.payloadBits + p.trailerBits ∧ r = preT p + p.syncT + 3 * k ∧ i = dataSymbol P k) ∨
    (r = preT p + p.syncT + dataT p ∧ i = .pktGap) := by
  by_cases hpre : r < preT p
  · rw [symbolStart_preamble hpre, Option.ite_none_right_eq_some] at h
    obtain ⟨heven, hi⟩ := h
    exact .inl ⟨r / 2, by unfold preT at hpre; omega, by omega, (Option.some.inj hi).symm⟩
  by_cases hgap : r < preT p + p.syncT
  · rw [symbolStart_gap hpre hgap, Option.ite_none_right_eq_some] at h
    exact .inr (.inl ⟨h.1, (Option.some.inj h.2).symm⟩)
  obtain ⟨d, rfl⟩ := Nat.exists_eq_add_of_le (Nat.not_lt.1 hgap)
  rw [symbolStart_after] at h
  by_cases hd : d < dataT p
  · rw [if_pos hd, Option.ite_none_right_eq_some] at h
    obtain ⟨hthird, hi⟩ := h
    refine .inr (.inr (.inl ⟨d / 3, ?_, by omega, (Option.some.inj hi).symm⟩))
    simp only [dataT, Config.bitT] at hd
    omega
  · rw [if_neg hd, Option.ite_none_right_eq_some] at h
    obtain ⟨⟨rfl, -⟩, hi⟩ := h
    exact .inr (.inr (.inr ⟨rfl, (Option.some.inj hi).symm⟩))

/-- Where a symbol begins, the level function gives its levels one by one (R78). -/
theorem repLevel_of_symbolStart {r : Nat} {i : Instr} (h : symbolStart p P r = some i) {j : Nat}
    (hj : j < (symbolLevels p i).length) : repLevel p P (r + j) = (symbolLevels p i)[j] := by
  rcases symbolStart_cases h with ⟨k, hk, rfl, rfl⟩ | ⟨rfl, rfl⟩ | ⟨k, hk, rfl, rfl⟩ | ⟨rfl, rfl⟩
  · have hj2 : j < 2 := hj
    rw [repLevel_preamble p P (by unfold preT; omega)]
    interval_cases j
    · simp [symbolLevels]
    · simp [symbolLevels]
  · simp only [symbolLevels, List.length_replicate] at hj
    simp only [symbolLevels, List.getElem_replicate, repLevel_syncGap p P hj]
  · have hj3 : j < 3 := by rwa [symbolLevels_dataSymbol] at hj
    rw [Nat.add_assoc, repLevel_data p P hk hj3]
    simp only [symbolLevels_dataSymbol]
    interval_cases j <;> rfl
  · simp only [symbolLevels, List.getElem_replicate, repLevel_pktGap]

/-- A symbol that begins in the repetition in which the burst stands keeps within it, so the level function of the burst gives its levels there too (R78). -/
theorem level_of_symbolStart {s : Nat} {i : Instr} (h : symbolStart p P (s % repT p) = some i) {j : Nat}
    (hj : j < (symbolLevels p i).length) : level p P (s + j) = (symbolLevels p i)[j] := by
  obtain ⟨-, hend, -⟩ := symbolStart_bounds h
  have hmod : (s + j) % repT p = s % repT p + j := by
    rw [Nat.add_mod, Nat.mod_eq_of_lt (by omega : j < repT p), Nat.mod_eq_of_lt (by omega)]
  rw [level, hmod, repLevel_of_symbolStart h hj]

/-- A data symbol lies behind the payload bits exactly from bit 64 on. -/
theorem behindPayload_data (k : Nat) : behindPayload p (preT p + p.syncT + 3 * k) = decide (64 ≤ k) := by
  unfold behindPayload Config.payloadBits Config.bitT
  congr 1
  exact propext ⟨fun h => by omega, fun h => by omega⟩

/-- A TRAILER_BIT begins behind the payload bits and a BIT1 before them, which is what tells them apart (R79). -/
theorem behindPayload_of_symbolStart {r : Nat} {i : Instr} (h : symbolStart p P r = some i) :
    (i = .trailerBit → behindPayload p r = true) ∧ (i = .bit1 → behindPayload p r = false) := by
  rcases symbolStart_cases h with ⟨k, hk, rfl, rfl⟩ | ⟨rfl, rfl⟩ | ⟨k, hk, rfl, rfl⟩ | ⟨rfl, rfl⟩
  case inr.inr.inl =>
    rw [behindPayload_data]
    by_cases hp : k < 64
    · refine ⟨fun e => ?_, fun _ => decide_eq_false (Nat.not_le.2 hp)⟩
      rw [dataSymbol_payload hp, bitSymbol] at e
      split at e <;> cases e
    · have hp := Nat.not_lt.1 hp
      refine ⟨fun _ => decide_eq_true hp, fun e => ?_⟩
      rw [dataSymbol_trailer hp] at e
      cases e
  all_goals exact ⟨nofun, nofun⟩

/-! The levels of a repetition and of a burst. -/

theorem flatten_replicate_append {α : Type} (n : Nat) (l : List α) :
    (List.replicate (n + 1) l).flatten = (List.replicate n l).flatten ++ l := by
  rw [List.replicate_succ', List.flatten_append, List.flatten_singleton]

/-- A repetition is its symbols, one after another (R75). -/
theorem repetitionLevels_symbols (p : Params) (P : Payload) :
    repetitionLevels p P = ((repetitionSymbols p P).map (symbolLevels p)).flatten := by
  have hpre : (List.range p.preCycles).flatMap (fun _ => [true, false]) =
      (List.replicate p.preCycles (symbolLevels p .preCycle)).flatten := by
    rw [List.flatMap_def, List.map_const', List.length_range]
    rfl
  have hpayload : (List.range Config.payloadBits).flatMap (fun k => [true, !wireBit P k, false]) =
      ((List.range Config.payloadBits).map fun k => symbolLevels p (bitSymbol P k)).flatten := by
    simp only [symbolLevels_bitSymbol, List.flatMap_def]
  have htrailer : (List.range p.trailerBits).flatMap
        (fun k => [true, !wireBit P (Config.payloadBits + k), false]) =
      (List.replicate p.trailerBits (symbolLevels p .trailerBit)).flatten := by
    rw [List.flatMap_def]
    congr 1
    refine map_range_const _ _ _ fun k _ => ?_
    rw [wireBit_trailer P (Nat.le_add_right 64 k)]
    rfl
  rw [repetitionLevels_regions, List.range_add, List.flatMap_append, List.flatMap_map, hpre, hpayload, htrailer]
  simp [repetitionSymbols, symbolLevels, Function.comp_def]

/-- A burst is its repetitions, one after another (R75). -/
theorem burstLevels_repetitions (p : Params) (P : Payload) :
    burstLevels p P = (List.replicate p.reps (repetitionLevels p P)).flatten := by
  rw [burstLevels, burstT, map_range_mul]
  congr 1
  refine map_range_const _ _ _ fun m _ => List.map_congr_left fun r hr => ?_
  exact level_block p P m (List.mem_range.1 hr)

/-! A symbol run as one step (log 6). -/

/-- At its first T unit and with room before the burst's end a symbol moves the slot by its length (R127). -/
theorem perform_symbol_inside {s : State p} {i : Instr} (hl : s.Legal) (hb : s.txBusy = true)
    (h : symbolStart p s.txPayload (s.txSlot.toNat % repT p) = some i)
    (hend : s.txSlot.toNat + (symbolLevels p i).length < burstT p) :
    s.perform i = .next { s with txSlot := s.txSlot + BitVec.ofNat _ (symbolLevels p i).length } := by
  obtain ⟨-, -, hk, -⟩ := symbolStart_bounds h
  refine perform_next hl ?_ ?_
  · rw [enabled_symbol hk, atSymbol_iff]
    exact ⟨hb, h⟩
  · rw [effect_symbol hk, State.sendUnits, txUnits_inside _ _ hend]

/-- Behind `j` units of a burst the pin has the level of that slot (R126). -/
theorem txO_moved {s : State p} {j : Nat} (hb : s.txBusy = true) (hj : s.txSlot.toNat + j < burstT p) :
    State.txO { s with txSlot := s.txSlot + BitVec.ofNat _ j } = level p s.txPayload (s.txSlot.toNat + j) := by
  simp only [State.txO, hb, Bool.true_and, slot_add_toNat hj]

end Sys2Proof.Machine

/-! SUPPORT. The run decoder (30_encoding.md R79, 41_tx_timing.md R121): a burst's runs as pairs of a HIGH and a LOW run, the levels they stand for, and the symbols they are read as. -/

namespace Sys2Proof.Machine

open Sys2Proof.Config (Params params)

/-! Runs in pairs. -/

/-- The runs of a sequence of pairs, each a HIGH run and the LOW run behind it (R79). -/
def pairRuns (ps : List (Nat × Nat)) : List LevelRun := ps.flatMap fun q => [(true, q.1), (false, q.2)]

@[simp] theorem pairRuns_append (ps qs : List (Nat × Nat)) : pairRuns (ps ++ qs) = pairRuns ps ++ pairRuns qs :=
  List.flatMap_append

/-- Taking runs in pairs undoes it. -/
theorem runPairs_pairRuns (ps : List (Nat × Nat)) : runPairs (pairRuns ps) = some ps := by
  induction ps with
  | nil => rfl
  | cons q ps ih =>
    show (runPairs (pairRuns ps)).map (q :: ·) = _
    rw [ih]
    rfl

@[simp] theorem expandRuns_append (rs ss : List LevelRun) : expandRuns (rs ++ ss) = expandRuns rs ++ expandRuns ss := by
  simp [expandRuns]

theorem measureRuns_cons_same {b : Level} {ls : List Level} {n : Nat} {rs : List LevelRun}
    (h : measureRuns ls = (b, n) :: rs) : measureRuns (b :: ls) = (b, n + 1) :: rs := by
  simp [measureRuns, h]

/-- The first run has the first level. -/
theorem measureRuns_head (b : Level) (ls : List Level) : ∃ n rs, measureRuns (b :: ls) = (b, n) :: rs := by
  unfold measureRuns
  split
  · exact ⟨_, _, rfl⟩
  · split <;> exact ⟨_, _, rfl⟩

theorem measureRuns_cons_of_ne {b : Level} {ls : List Level} (h : ls.head? ≠ some b) :
    measureRuns (b :: ls) = (b, 1) :: measureRuns ls := by
  cases ls with
  | nil => rfl
  | cons c ls =>
    obtain ⟨n, rs, e⟩ := measureRuns_head c ls
    have hbc : b ≠ c := fun hbc => h (congrArg some hbc.symm)
    rw [measureRuns, e]
    exact if_neg hbc

/-- A run measured in front of levels that do not go on with its own. -/
theorem measureRuns_replicate {b : Level} {n : Nat} (hn : 0 < n) {ls : List Level} (h : ls.head? ≠ some b) :
    measureRuns (List.replicate n b ++ ls) = (b, n) :: measureRuns ls := by
  induction n, hn using Nat.le_induction with
  | base => exact measureRuns_cons_of_ne h
  | succ n _ ih => exact measureRuns_cons_same ih

theorem expandRuns_pairRuns_cons (hi lo : Nat) (ps : List (Nat × Nat)) :
    expandRuns (pairRuns ((hi, lo) :: ps)) =
      List.replicate hi true ++ (List.replicate lo false ++ expandRuns (pairRuns ps)) := rfl

theorem expandRuns_pair (hi lo : Nat) :
    expandRuns (pairRuns [(hi, lo)]) = List.replicate hi true ++ List.replicate lo false := by
  simp [expandRuns, pairRuns]

/-- The levels of pairs do not begin LOW. -/
theorem expandRuns_pairRuns_head {ps : List (Nat × Nat)} (h : ∀ q ∈ ps, 0 < q.1) :
    (expandRuns (pairRuns ps)).head? ≠ some false := by
  cases ps with
  | nil => exact nofun
  | cons q ps =>
    obtain ⟨n, hn⟩ := Nat.exists_eq_add_one.2 (h q List.mem_cons_self)
    rw [expandRuns_pairRuns_cons, hn]
    exact nofun

/-- Measuring the levels of runs in pairs gives the runs back, where none is empty. -/
theorem measureRuns_pairRuns {ps : List (Nat × Nat)} (h : ∀ q ∈ ps, 0 < q.1 ∧ 0 < q.2) :
    measureRuns (expandRuns (pairRuns ps)) = pairRuns ps := by
  induction ps with
  | nil => rfl
  | cons q ps ih =>
    rw [List.forall_mem_cons] at h
    obtain ⟨⟨hhi, hlo⟩, hps⟩ := h
    obtain ⟨n, hn⟩ := Nat.exists_eq_add_one.2 hlo
    have hlow : (List.replicate q.2 false ++ expandRuns (pairRuns ps)).head? ≠ some true := by
      rw [hn]
      exact nofun
    rw [expandRuns_pairRuns_cons, measureRuns_replicate hhi hlow,
      measureRuns_replicate hlo (expandRuns_pairRuns_head fun q hq => (hps q hq).1), ih hps]
    rfl

/-- So the pairs' levels are decoded as the pairs are, however long the line was idle before them (R79). -/
theorem decodeLevels_pairs (p : Params) {ps : List (Nat × Nat)} (h : ∀ q ∈ ps, 0 < q.1 ∧ 0 < q.2) (before : Nat) :
    decodeLevels p (List.replicate before false ++ expandRuns (pairRuns ps)) = decodePairs p ps := by
  have hdrop : (List.replicate before false ++ expandRuns (pairRuns ps)).dropWhile (fun l => !l) =
      expandRuns (pairRuns ps) := by
    rw [List.dropWhile_append_of_pos (by simp)]
    have hhead := expandRuns_pairRuns_head fun q hq => (h q hq).1
    cases hl : expandRuns (pairRuns ps) with
    | nil => rfl
    | cons l ls =>
      rw [hl] at hhead
      exact List.dropWhile_cons_of_neg (by simpa using hhead)
  rw [decodeLevels, hdrop, measureRuns_pairRuns h, decodeRuns, runPairs_pairRuns, Option.bind_some]

/-! The pairs of a repetition. -/

/-- R121: the pairs of a repetition up to its last trailer bit. -/
def bodyPairs (p : Params) (P : Payload) : List (Nat × Nat) :=
  List.replicate (p.preCycles - 1) (1, 1) ++ [(1, 1 + p.syncT)]
    ++ (List.range Config.payloadBits).map (fun k => (hiT (wireBit P k), loT (wireBit P k)))
    ++ List.replicate (p.trailerBits - 1) (1, 2)

/-- R121: the pairs of a repetition behind which the line stays LOW for `idle` units more. -/
def repetitionPairs (p : Params) (P : Payload) (idle : Nat) : List (Nat × Nat) :=
  bodyPairs p P ++ [(1, 2 + p.gapT + idle)]

theorem repetitionRuns_eq (p : Params) (P : Payload) : repetitionRuns p P = pairRuns (repetitionPairs p P 0) := by
  simp [repetitionRuns, repetitionPairs, bodyPairs, pairRuns, List.flatMap_def, List.map_replicate, Function.comp_def]

theorem hiT_pos (b : Bool) : 0 < hiT b := by cases b <;> decide

theorem loT_pos (b : Bool) : 0 < loT b := by cases b <;> decide

theorem repetitionPairs_pos {p : Params} {P : Payload} {idle : Nat} :
    ∀ q ∈ repetitionPairs p P idle, 0 < q.1 ∧ 0 < q.2 := by
  intro q hq
  simp only [repetitionPairs, bodyPairs, List.mem_append, List.mem_replicate, List.mem_map, List.mem_singleton] at hq
  obtain (((⟨-, rfl⟩ | rfl) | ⟨k, -, rfl⟩) | ⟨-, rfl⟩) | rfl := hq
  case inl.inl.inr => exact ⟨hiT_pos _, loT_pos _⟩
  all_goals simp only; omega

theorem expandRuns_pairRuns_replicate (n : Nat) (ps : List (Nat × Nat)) :
    expandRuns (pairRuns (List.replicate n ps).flatten) = (List.replicate n (expandRuns (pairRuns ps))).flatten := by
  induction n with
  | zero => rfl
  | succ n ih => simp only [List.replicate_succ, List.flatten_cons, pairRuns_append, expandRuns_append, ih]

theorem expandRuns_pairRuns_replicate_pair (n hi lo : Nat) :
    expandRuns (pairRuns (List.replicate n (hi, lo))) =
      (List.replicate n (List.replicate hi true ++ List.replicate lo false)).flatten := by
  rw [← List.flatten_replicate_singleton, expandRuns_pairRuns_replicate, expandRuns_pair]

/-- R121: the two runs of each payload bit have the levels of its symbol. -/
theorem expandRuns_payload (p : Params) (P : Payload) (ks : List Nat) :
    expandRuns (pairRuns (ks.map fun k => (hiT (wireBit P k), loT (wireBit P k)))) =
      (ks.map fun k => symbolLevels p (bitSymbol P k)).flatten := by
  induction ks with
  | nil => rfl
  | cons k ks ih =>
    rw [List.map_cons, expandRuns_pairRuns_cons, ih, ← List.append_assoc, List.map_cons, List.flatten_cons,
      symbolLevels_bitSymbol]
    cases wireBit P k <;> rfl

/-- The pairs of a repetition stand for its levels, and for the idle line's behind them (R121, R78). -/
theorem expandRuns_repetitionPairs {p : Params} (hpre : 0 < p.preCycles) (htrailer : 0 < p.trailerBits) (P : Payload)
    (idle : Nat) :
    expandRuns (pairRuns (repetitionPairs p P idle)) = repetitionLevels p P ++ List.replicate idle false := by
  have hcycles (n : Nat) : expandRuns (pairRuns (List.replicate n (1, 1))) =
      (List.replicate n (symbolLevels p .preCycle)).flatten := expandRuns_pairRuns_replicate_pair n 1 1
  have hsync : expandRuns (pairRuns [(1, 1 + p.syncT)]) = symbolLevels p .preCycle ++ symbolLevels p .syncGap := by
    rw [expandRuns_pair, List.replicate_add 1 p.syncT, ← List.append_assoc]
    rfl
  have htrailers (n : Nat) : expandRuns (pairRuns (List.replicate n (1, 2))) =
      (List.replicate n (symbolLevels p .trailerBit)).flatten := expandRuns_pairRuns_replicate_pair n 1 2
  have hlast : expandRuns (pairRuns [(1, 2 + p.gapT + idle)]) =
      symbolLevels p .trailerBit ++ (symbolLevels p .pktGap ++ List.replicate idle false) := by
    rw [expandRuns_pair, Nat.add_assoc, List.replicate_add 2, List.replicate_add p.gapT, ← List.append_assoc]
    rfl
  obtain ⟨m, hm⟩ := Nat.exists_eq_add_one.2 hpre
  obtain ⟨n, hn⟩ := Nat.exists_eq_add_one.2 htrailer
  simp only [repetitionPairs, bodyPairs, pairRuns_append, expandRuns_append, expandRuns_payload p, hm, hn,
    Nat.add_sub_cancel, hcycles, hsync, htrailers, hlast]
  rw [repetitionLevels_symbols, repetitionSymbols, hm, hn]
  simp [flatten_replicate_append, Function.comp_def]

/-! What the pairs are read as. -/

/-- In front of any other pairs, `ps` is read as the symbols `is`. -/
def ReadAs (p : Params) (ps : List (Nat × Nat)) (is : List Instr) : Prop :=
  ∀ rest, decodePairs p (ps ++ rest) = (decodePairs p rest).map (is ++ ·)

section
variable {p : Params} {ps qs : List (Nat × Nat)} {is js : List Instr}

theorem ReadAs.nil : ReadAs p [] [] := by
  intro rest
  simp

/-- A pair that is the same symbols wherever it stands. -/
theorem ReadAs.pair {hi lo : Nat} (h : ∀ last, classifyRunPair p last hi lo = some is) : ReadAs p [(hi, lo)] is := by
  intro rest
  rw [List.singleton_append, decodePairs, h]
  cases decodePairs p rest <;> rfl

theorem ReadAs.append (h : ReadAs p ps is) (h' : ReadAs p qs js) : ReadAs p (ps ++ qs) (is ++ js) := by
  intro rest
  rw [List.append_assoc, h, h', Option.map_map]
  simp only [Function.comp_def, List.append_assoc]

theorem ReadAs.replicate (h : ReadAs p ps is) (n : Nat) :
    ReadAs p (List.replicate n ps).flatten (List.replicate n is).flatten := by
  induction n with
  | zero => exact .nil
  | succ n ih => exact h.append ih

theorem ReadAs.map {α : Type} {f : α → Nat × Nat} {g : α → Instr} (h : ∀ a, ReadAs p [f a] [g a]) (l : List α) :
    ReadAs p (l.map f) (l.map g) := by
  induction l with
  | nil => exact .nil
  | cons a l ih => exact (h a).append ih

end

/-- At the defaults the pair of a payload bit is that bit (R79). -/
theorem bitPair_readAs (P : Payload) (k : Nat) :
    ReadAs params [(hiT (wireBit P k), loT (wireBit P k))] [bitSymbol P k] := by
  refine ReadAs.pair fun last => ?_
  unfold bitSymbol
  cases wireBit P k <;> rfl

/-- R79: what a repetition's body is read as at the defaults: its symbols, the first trailer bit as the BIT1 it looks like. -/
def bodySymbols (P : Payload) : List Instr :=
  List.replicate 12 Instr.preCycle ++ [Instr.syncGap] ++ (List.range 64).map (bitSymbol P) ++ [Instr.bit1]

theorem bodySymbols_append (P : Payload) (is : List Instr) : bodySymbols P ++ is =
    List.replicate 12 Instr.preCycle ++ [Instr.syncGap] ++ (List.range 64).map (bitSymbol P) ++ .bit1 :: is := by
  rw [bodySymbols, List.append_assoc _ [Instr.bit1], List.singleton_append]

theorem bodyPairs_readAs (P : Payload) : ReadAs params (bodyPairs params P) (bodySymbols P) := by
  have hcycle : ReadAs params [(1, 1)] [.preCycle] := .pair fun _ => rfl
  have hsync : ReadAs params [(1, 11)] [.preCycle, .syncGap] := .pair fun _ => rfl
  have htrailer : ReadAs params [(1, 2)] [.bit1] := .pair fun _ => rfl
  have hhead : ReadAs params (List.replicate 11 (1, 1) ++ [(1, 11)]) (List.replicate 12 Instr.preCycle ++ [Instr.syncGap]) :=
    (hcycle.replicate 11).append hsync
  exact (hhead.append (ReadAs.map (bitPair_readAs P) (List.range 64))).append htrailer

/-- The last pair is the second trailer bit with the packet gap, and behind the last repetition with the idle line (R79). -/
theorem decodePairs_last (idle : Nat) : decodePairs params [(1, 41 + idle)] = some [.trailerBit, .pktGap] := by
  have hgap : params.gapT = 39 := gapT_params
  have hsync : params.syncT = 10 := syncT_params
  have hlo : classifyRunPair params true 1 (41 + idle) = some [.trailerBit, .pktGap] := by
    rw [classifyRunPair, if_neg (by omega), if_neg (by omega), if_neg (by omega), if_neg (by omega),
      if_pos ⟨rfl, .inr ⟨rfl, by omega⟩⟩]
  rw [decodePairs, List.isEmpty_nil, hlo]
  rfl

/-- A repetition with the idle line behind it is read as its symbols (R79). -/
theorem decodePairs_repetition (P : Payload) (idle : Nat) :
    decodePairs params (repetitionPairs params P idle) = some (bodySymbols P ++ [.trailerBit, .pktGap]) := by
  have hlast : repetitionPairs params P idle = bodyPairs params P ++ [(1, 41 + idle)] := rfl
  rw [hlast, bodyPairs_readAs, decodePairs_last, Option.map_some]

/-- A repetition with others behind it is read as the same symbols (R79). -/
theorem repetitionPairs_readAs (P : Payload) :
    ReadAs params (repetitionPairs params P 0) (bodySymbols P ++ [.trailerBit, .pktGap]) := by
  have hlast : ReadAs params [(1, 41)] [.trailerBit, .pktGap] := .pair fun _ => rfl
  exact (bodyPairs_readAs P).append hlast

/-- The pairs of a burst with the idle line behind it: whole repetitions, and a last one whose packet gap is longer. -/
def burstPairs (p : Params) (P : Payload) (after : Nat) : List (Nat × Nat) :=
  (List.replicate (p.reps - 1) (repetitionPairs p P 0)).flatten ++ repetitionPairs p P after

theorem burstPairs_pos {p : Params} {P : Payload} {after : Nat} : ∀ q ∈ burstPairs p P after, 0 < q.1 ∧ 0 < q.2 := by
  intro q hq
  obtain hq | hq := List.mem_append.1 hq
  · obtain ⟨ps, hps, hq⟩ := List.mem_flatten.1 hq
    rw [List.eq_of_mem_replicate hps] at hq
    exact repetitionPairs_pos q hq
  · exact repetitionPairs_pos q hq

/-- The levels of a burst and of the idle line behind it are those of its pairs (R121, R78). -/
theorem expandRuns_burstPairs {p : Params} (hpre : 0 < p.preCycles) (htrailer : 0 < p.trailerBits) (hreps : 0 < p.reps)
    (P : Payload) (after : Nat) :
    expandRuns (pairRuns (burstPairs p P after)) = burstLevels p P ++ List.replicate after false := by
  obtain ⟨n, hn⟩ := Nat.exists_eq_add_one.2 hreps
  rw [burstPairs, pairRuns_append, expandRuns_append, expandRuns_pairRuns_replicate,
    expandRuns_repetitionPairs hpre htrailer, expandRuns_repetitionPairs hpre htrailer, List.replicate_zero,
    List.append_nil, burstLevels_repetitions, hn, Nat.add_sub_cancel, flatten_replicate_append, List.append_assoc]

theorem decodePairs_burst (P : Payload) (after : Nat) : decodePairs params (burstPairs params P after) =
    some (List.replicate 4 (bodySymbols P ++ [.trailerBit, .pktGap])).flatten := by
  have hburst : burstPairs params P after =
    (List.replicate 3 (repetitionPairs params P 0)).flatten ++ repetitionPairs params P after := rfl
  rw [hburst, (repetitionPairs_readAs P).replicate 3, decodePairs_repetition, Option.map_some, ← flatten_replicate_append]

end Sys2Proof.Machine

/-! SUPPORT. What the parts of a tick answer at their places (41_tx_timing.md R125; 42_activity_controller.md R152 to R160), and the pseudo-events of 30_encoding.md R94: MS_TICKs one after another, and a burst's events to its end. -/

namespace Sys2Proof.Machine

open Sys2Proof.Config (Params params)

variable {p : Params}

/-! A tick's parts at their places. -/

/-- A TICK where a burst can start is TX_START behind the snapshot and the heartbeat (R152 to R154). -/
theorem tick_of_permit {s : State p} (h : s.HeartbeatHolds ∨ s.txAllowed = true) :
    s.tick = State.txStart { s with
      tkNow := s.nowMs, tkBtn := !s.buttonN, tkChg := !s.chargerN, txAllowed := true
      cooldownTs := if s.HeartbeatHolds then s.nowMs else s.cooldownTs } := by
  rcases tick_cases s with ⟨hh, e⟩ | ⟨hh, hp, e⟩ | ⟨hh, hp, -⟩
  · rw [e, if_pos hh]
    rfl
  · rw [e, if_neg hh, ← hp]
    rfl
  · exact absurd (h.resolve_left hh) (by simp [hp])

/-- A TICK without heartbeat and permit is TICK_B behind the snapshot (R152). -/
theorem tick_of_no_permit {s : State p} (hh : ¬ s.HeartbeatHolds) (hp : s.txAllowed = false) :
    s.tick = s.takeSnapshot.tickB := by
  rcases tick_cases s with ⟨h, -⟩ | ⟨-, h, -⟩ | ⟨-, -, e⟩
  · exact absurd h hh
  · exact absurd h (by simp [hp])
  · exact e

/-- TICK_B's three ways as one equation (R155). -/
theorem tickB_eq (s : State p) : s.tickB =
    if s.tkBtn = true ∨ s.tkChg = true then { s with idleTs := s.tkNow, ctrlState := .awakeActive }
    else if p.idleMs ≤ (s.tkNow - s.idleTs).toNat then s.sleepEnter
    else { s with ctrlState := .awakeIdle } := by
  simp only [State.tickB, inputActive_iff, idleDue_iff]
  rfl

section
variable {s : State} (ha : s.IsAwake) (hb : s.txBusy = false)
include ha hb

theorem exec_tick_of_awake : exec .tick s = .next s.tick :=
  exec_next (legal_of_awake_idle ha hb) (tickEnabled_iff.2 ⟨ha, hb⟩) rfl

theorem exec_txStart_of_place (hp : s.txAllowed = true) : exec .txStart s = .next s.txStart :=
  exec_next (legal_of_awake_idle ha hb) (txStartPlace_iff.2 ⟨ha, hb, hp⟩) rfl

theorem exec_tickB_of_place (hp : s.txAllowed = false) : exec .tickB s = .next s.tickB :=
  exec_next (legal_of_awake_idle ha hb) (tickBPlace_iff.2 ⟨ha, hb, hp⟩) rfl

end

/-- At the defaults a burst begins with a preamble, so its first slot is HIGH (R125). -/
theorem txO_txStart (s : State) : s.txStart.txO = true := rfl

/-! MS_TICKs one after another (R94 WAIT_MS). -/

theorem exec_setInputs_of_legal {s : State} (h : s.Legal) (b c : Level) :
    exec (.setInputs b c) s = .next (s.setPins b c) := exec_next h rfl rfl

theorem execAll_singleton (i : Instr) (s : State) : execAll [i] s = exec i s := by
  rw [execAll]
  cases exec i s <;> rfl

/-- A millisecond and then `n` more (R150). -/
theorem add_one_add_ofNat {w : Nat} (x : BitVec w) (n : Nat) : x + 1 + BitVec.ofNat w n = x + BitVec.ofNat w (n + 1) := by
  rw [BitVec.add_assoc, Nat.add_comm n 1, BitVec.ofNat_add]
  rfl

/-- From a time to a later one there are as many milliseconds as their difference (R151). -/
theorem add_ofNat_sub {w t : Nat} {n : BitVec w} (h : n.toNat ≤ t) :
    n + BitVec.ofNat w (t - n.toNat) = BitVec.ofNat w t := by
  calc n + BitVec.ofNat w (t - n.toNat)
      = BitVec.ofNat w n.toNat + BitVec.ofNat w (t - n.toNat) := by rw [BitVec.ofNat_toNat, BitVec.setWidth_eq]
    _ = BitVec.ofNat w t := by rw [← BitVec.ofNat_add, Nat.add_sub_of_le h]

theorem execAll_waitMs (n : Nat) {s : State} (h : s.Legal) :
    execAll (waitMs n) s = .next { s with nowMs := s.nowMs + BitVec.ofNat _ n } := by
  induction n generalizing s with
  | zero => simp [waitMs, execAll]
  | succ n ih =>
    rw [waitMs, List.replicate_succ, execAll, exec_msTick_of_legal h, ← add_one_add_ofNat]
    exact ih (s := s.msTick) h

/-! A burst's events to its end (R94 RUN_BURST). -/

/-- What is left of a burst: `n` TX_UNITs to its end, or, with none left, neither burst nor permit. -/
structure State.BurstLeft (s : State p) (n : Nat) : Prop where
  inv : s.BlockInv
  left : (s.txBusy = true ∧ s.txSlot.toNat + n = burstT p) ∨ (s.txBusy = false ∧ s.txAllowed = false ∧ n = 0)

section
variable {s t : State p} {n : Nat}

/-- An event that writes none of the registers the invariants speak of leaves as much of the burst. -/
theorem State.BurstLeft.congr (h : s.BurstLeft n) (e : t.invRegisters = s.invRegisters) : t.BurstLeft n := by
  refine ⟨h.inv.congr e, ?_⟩
  simp only [State.invRegisters, Prod.mk.injEq] at e
  obtain ⟨-, hpermit, -, -, hbusy, hslot, -⟩ := e
  rw [hpermit, hbusy, hslot]
  exact h.left

theorem State.BurstLeft.busy (h : s.BurstLeft (n + 1)) : s.txBusy = true ∧ s.txSlot.toNat + (n + 1) = burstT p :=
  h.left.resolve_right fun ⟨_, _, hn⟩ => nomatch hn

/-- A TX_UNIT leaves one less of the burst (R127, R128). -/
theorem State.BurstLeft.txUnit (h : s.BurstLeft (n + 1)) : s.txUnit.BurstLeft n := by
  obtain ⟨hb, hn⟩ := h.busy
  refine ⟨h.inv.txUnit hb, ?_⟩
  rcases txUnit_cases s with ⟨hlt, e⟩ | ⟨hle, e⟩ <;> rw [e]
  · have hslot := slot_succ_toNat hlt
    exact .inl ⟨hb, by simp only [hslot]; omega⟩
  · obtain ⟨hbusy, hpermit, -⟩ := txEnd_fields s
    exact .inr ⟨hbusy, hpermit, by omega⟩

/-- With none left the burst is over and its permit cleared: a burst in progress stands below its end (R42). -/
theorem State.BurstLeft.ended (h : s.BurstLeft 0) : s.txBusy = false ∧ s.txAllowed = false := by
  obtain ⟨hb, hn⟩ | ⟨hb, hp, -⟩ := h.left
  · have := (h.inv.busyAwake hb).2
    omega
  · exact ⟨hb, hp⟩

theorem txUnit_nowMs (s : State p) : s.txUnit.nowMs = s.nowMs := by
  rcases txUnit_cases s with ⟨-, e⟩ | ⟨-, e⟩ <;> rw [e]
  exact tickB_nowMs _

end

/-- Any interleaving of a burst's remaining TX_UNITs with MS_TICKs and SET_INPUTS runs and ends the burst (R128), and the millisecond counter counts through it (R150). -/
theorem State.BurstLeft.execAll {es : List Instr} {s : State} (hes : es.all duringBurst = true)
    (h : s.BurstLeft (es.count .txUnit)) :
    ∃ t, execAll es s = .next t ∧ t.BurstLeft 0 ∧ t.nowMs = s.nowMs + BitVec.ofNat _ (es.count .msTick) := by
  induction es generalizing s with
  | nil => exact ⟨s, rfl, h, by simp⟩
  | cons i es ih =>
    rw [List.all_cons, Bool.and_eq_true] at hes
    obtain ⟨hi, hes⟩ := hes
    have hl := h.inv.legal
    cases i with
    | txUnit =>
      rw [List.count_cons_self] at h
      obtain ⟨t, ht, hleft, hnow⟩ := ih hes h.txUnit
      refine ⟨t, ?_, hleft, ?_⟩
      · rw [Machine.execAll, exec_txUnit_of_busy hl h.busy.1]
        exact ht
      · rw [hnow, txUnit_nowMs, List.count_cons_of_ne (by decide)]
    | msTick =>
      rw [List.count_cons_of_ne (by decide)] at h
      obtain ⟨t, ht, hleft, hnow⟩ := ih (s := s.msTick) hes (h.congr rfl)
      refine ⟨t, ?_, hleft, ?_⟩
      · rw [Machine.execAll, exec_msTick_of_legal hl]
        exact ht
      · rw [hnow, List.count_cons_self, ← add_one_add_ofNat]
        rfl
    | setInputs b c =>
      rw [List.count_cons_of_ne (by simp)] at h
      obtain ⟨t, ht, hleft, hnow⟩ := ih (s := s.setPins b c) hes (h.congr rfl)
      refine ⟨t, ?_, hleft, ?_⟩
      · rw [Machine.execAll, exec_setInputs_of_legal hl]
        exact ht
      · rw [hnow, List.count_cons_of_ne (by simp)]
        rfl
    | _ => cases hi

/-- RUN_BURST's sequences are events of a burst, `BURST_T` TX_UNITs and 447 or 448 MS_TICKs among them (R221). -/
theorem isRunBurst_iff {es : List Instr} :
    isRunBurst es = true ↔ (∀ i ∈ es, i = .txUnit ∨ i = .msTick) ∧ es.count .txUnit = burstT params ∧
      (es.count .msTick = 447 ∨ es.count .msTick = 448) := by
  simp [isRunBurst, and_assoc]

theorem duringBurst_of_isRunBurst {es : List Instr} (h : isRunBurst es = true) : es.all duringBurst = true := by
  refine List.all_eq_true.2 fun i hi => ?_
  obtain rfl | rfl := (isRunBurst_iff.1 h).1 i hi <;> rfl

end Sys2Proof.Machine

/-! PROOFS. The statements of 30_encoding.md: event words and scripts, the wire symbols and the run decoder, the parts of a tick, and the pseudo-events. -/

namespace Sys2Proof.Proofs

open Sys2Proof.Machine
open Sys2Proof.Config (Params params)

/-- Settles O1: each row's word by evaluation; and a word that decodes is the word of what it decodes to. -/
theorem eventWordsDecode : Obligations.EventWordsDecode := by
  refine ⟨rfl, rfl, rfl, rfl, rfl, fun b c => decodeEvent_of_eventWord rfl, rfl, rfl, rfl, rfl, rfl, ?_⟩
  intro ev i h
  have hw := eventWord_of_decodeEvent h
  cases i with
  | setInputs b c => cases b <;> cases c <;> cases hw <;> decide
  | preCycle | syncGap | bit0 | bit1 | trailerBit | pktGap => cases hw
  | _ => cases hw; decide

/-- Settles O2: each encoding reads back by evaluation, with the position told for the two symbols of the same levels; where a burst stands at one of them its slot tells it. -/
theorem decodeOfEncode : Obligations.DecodeOfEncode := by
  refine ⟨fun i => ⟨fun h => decode_encode (fun e => absurd e h) fun _ => rfl,
    fun h => decode_encode (fun _ => rfl) fun e => absurd e h⟩, fun s i h => ?_⟩
  obtain ⟨hb, hs⟩ := atSymbol_iff.1 h
  obtain ⟨htrailer, hbit⟩ := behindPayload_of_symbolStart hs
  have hpos : s.inTrailer = behindPayload params (s.txSlot.toNat % repT params) := by
    rw [State.inTrailer, hb, Bool.true_and, State.repSlot]
  rw [hpos]
  exact decode_encode htrailer hbit

/-- Settles O3: the words R91 names are no external event's, what is taken between events is the environment's word, and no effect leaves a part behind. -/
theorem reservedEventsAreRefused : Obligations.ReservedEventsAreRefused := by
  refine ⟨?_, ?_, fun s t h => step_part h, fun s h => h.part⟩
  · intro s ev rnd rest hev
    obtain ⟨why, hd⟩ := decodeOutside_error hev
    refine ⟨why, ?_⟩
    rw [step_of_fetch (fetch_of_script rfl rfl), decode, hd]
  · intro s u o i hp hf hd
    rcases fetch_cases s with ⟨q, hq, -⟩ | ⟨-, -, e⟩ | ⟨st, rest, -, -, e⟩
    · cases hp.symm.trans hq
    · cases hf.symm.trans e
    · cases hf.symm.trans e
      exact decodeOutside_kind hd

/-- Settles O56: a spelling is a plain line, so what is stripped behind it leaves it, and the spellings are told apart. -/
theorem scriptLinesReadBack : Obligations.ScriptLinesReadBack := by
  refine fun i => ⟨scriptable_iff_spelling i, fun line h => ⟨parseLine_of_spelling ?_, fun blanks comment => ?_⟩⟩
  · rw [stripComment_plain (spelling_plain h), h]
  · exact parseLine_of_spelling (by rw [stripComment_comment (spelling_plain h), h])

/-- Settles O4: for each of the sixteen codes the product is computed, and the packing adds nothing to it. -/
theorem buttonSpreadPlacesBothCopies : Obligations.ButtonSpreadPlacesBothCopies :=
  ⟨rfl, fun code => ⟨mul_buttonSpread_copies code, (packPayload_code code).trans (mul_buttonSpread_copies code)⟩⟩

/-- Settles O10: the level function's regions are the symbols', and a burst's slots are counted modulo the repetition. -/
theorem levelsAreSymbolsInOrder : Obligations.LevelsAreSymbolsInOrder :=
  fun p P => ⟨repetitionLevels_symbols p P, burstLevels_repetitions p P⟩

/-- Settles O11: the places for any parameters, at the defaults; the level function agrees at each of them. -/
theorem symbolAtItsStart : Obligations.SymbolAtItsStart := by
  refine ⟨fun P => ⟨fun k hk => ?_, rfl, fun k hk => ?_, rfl, rfl, rfl, fun r i h => ?_⟩,
    fun P r i h j hj => repLevel_of_symbolStart h hj⟩
  · rw [symbolStart_preamble (by rw [preT_params]; omega), if_pos (Nat.mul_mod_right 2 k)]
  · rw [← dataSymbol_payload hk]
    exact symbolStart_data (p := params) (Nat.lt_add_right _ hk)
  · rcases symbolStart_cases h with ⟨k, hk, hr, -⟩ | ⟨hr, -⟩ | ⟨k, hk, hr, -⟩ | ⟨hr, -⟩
    · exact .inl ⟨k, hk, hr⟩
    · exact .inr (.inl hr)
    · exact .inr (.inr (.inl ⟨k, hk, hr⟩))
    · exact .inr (.inr (.inr hr))

/-- Settles O21: the symbol's TX_UNITs stay inside the burst, and its slots inside the repetition. -/
theorem symbolIsSent : Obligations.SymbolIsSent := by
  intro s i hl hb h hend
  refine ⟨?_, fun j hj => ?_⟩
  · rw [exec_eq, perform_symbol_inside hl hb h hend]
  · rw [txO_moved hb (by omega), level_of_symbolStart h hj]

/-- Settles O13: a repetition's runs are pairs and each pair is read as its symbols; a burst's levels are measured into those pairs, the last one longer by the idle line. -/
theorem runPairsDecode : Obligations.RunPairsDecode := by
  refine ⟨fun P => ?_, fun P before after => ?_⟩ <;> rw [← bodySymbols_append]
  · rw [decodeRuns, repetitionRuns_eq, runPairs_pairRuns, Option.bind_some, decodePairs_repetition]
  · rw [List.append_assoc, ← expandRuns_burstPairs (by decide) (by decide) (by decide),
      decodeLevels_pairs _ burstPairs_pos, decodePairs_burst]

/-- Settles O57: by induction on the MS_TICKs, and TICK_AT waits the difference. -/
theorem waitAndTickAt : Obligations.WaitAndTickAt := by
  refine fun s hl => ⟨fun n => execAll_waitMs n hl, fun t hle _ => ?_⟩
  rw [tickAt, execAll_append, execAll_waitMs _ hl, add_ofNat_sub hle]
  exact execAll_singleton _ _

/-- Settles O58: by induction along the sequence less and less of the burst is left; in sleep the button's interrupt is armed. -/
theorem runBurstAndSleepWake : Obligations.RunBurstAndSleepWake := by
  refine ⟨fun es s hs hb hslot hes => ?_, fun s hs hc => ?_⟩
  · obtain ⟨-, hunits, hms⟩ := isRunBurst_iff.1 hes
    have hleft : s.BurstLeft (es.count .txUnit) := ⟨hs, .inl ⟨hb, by simp [hslot, hunits]⟩⟩
    obtain ⟨t, ht, hend, hnow⟩ := hleft.execAll (duringBurst_of_isRunBurst hes)
    obtain ⟨hbusy, hpermit⟩ := hend.ended
    refine ⟨t, ht, hbusy, hpermit, ?_⟩
    obtain h | h := hms <;> rw [hnow, h]
    · exact .inl rfl
    · exact .inr rfl
  · have hpins : (s.setPins false true).BlockInv := hs.congr rfl
    have hreq : (s.setPins false true).WakeRequested := .inl ⟨by simp [hs.btnArmed, hc], rfl⟩
    have hwake : exec .wake (s.setPins false true) = .next (s.setPins false true).takeWake :=
      exec_next hpins.legal (wakeEnabled_iff.2 ⟨hc, hreq⟩) rfl
    refine ⟨(s.setPins false true).takeWake, ?_, rfl, rfl, rfl, rfl, rfl, rfl⟩
    rw [sleepWakeBtn, execAll, exec_setInputs_of_legal hs.legal]
    exact (execAll_singleton _ _).trans hwake

/-- Settles O18: each answer is the effect at its place, and a TICK with a permit is TX_START behind the snapshot and the heartbeat. -/
theorem txStartResult : Obligations.TxStartResult := by
  refine ⟨fun s ha hb hp => ?_, fun s ha hb hp => ?_⟩
  · exact ⟨s.txStart, s.buildPayload, exec_txStart_of_place ha hb hp, txO_txStart s, txStart_eq s,
      exec_next (legal_of_awake_idle ha hb) rfl rfl, rfl⟩
  · refine ⟨s.tick, exec_tick_of_awake ha hb, ?_⟩
    rw [tick_of_permit hp]
    exact exec_txStart_of_place ha hb rfl

/-- Settles O33: TICK_B's three ways, and a TICK without heartbeat and permit is TICK_B behind the snapshot. -/
theorem tickBResult : Obligations.TickBResult := by
  refine ⟨fun s ha hb hp => ?_, fun s ha hb hp hh => ?_⟩
  · rw [exec_tickB_of_place ha hb hp, tickB_eq]
    rfl
  · refine ⟨s.tick, exec_tick_of_awake ha hb, ?_⟩
    rw [tick_of_no_permit hh hp]
    exact exec_tickB_of_place ha hb hp

/-- Settles O34: SLEEP_ENTER at its place, where TICK_B takes its second way. -/
theorem sleepEnterResult : Obligations.SleepEnterResult := by
  intro s ha hb hp hbtn hchg hidle
  refine ⟨s.sleepEnter, ?_, ?_, rfl, ?_, rfl, rfl, rfl⟩
  · exact exec_next (legal_of_awake_idle ha hb) (sleepEnterPlace_iff.2 ⟨⟨hbtn, hchg, hidle⟩, ha, hb, hp⟩) rfl
  · rw [exec_tickB_of_place ha hb hp, tickB_eq, if_neg (by simp [hbtn, hchg]), if_pos hidle]
  · show (s.txBusy && _) = false
    rw [hb, Bool.false_and]

end Sys2Proof.Proofs

/-! SUPPORT. The payload as the concatenation of its four fields, and each field read back (30_encoding.md R70 to R73; 40_payload_encoder.md R100, R104). -/

namespace Sys2Proof.Machine

section

variable (upper : BitVec 28) (code : BitVec 4) (id : BitVec 28)

/-- With R71's product as two copies, both sides are the or of the four fields at their offsets. -/
theorem packPayload_eq_append : packPayload upper code id = upper ++ code ++ id ++ code := by
  have fields : upper ++ code ++ id ++ code =
      upper.setWidth 64 <<< 36 ||| code.setWidth 64 <<< 32 ||| id.setWidth 64 <<< 4 ||| code.setWidth 64 :=
    (BitVec.setWidth_eq _).symm.trans BitVec.setWidth_append_append_append_eq_shiftLeft_setWidth_or
  rw [packPayload, mul_buttonSpread, fields]
  simp only [BitVec.or_assoc, BitVec.or_comm (code.setWidth 64)]

@[simp] theorem packPayload_lowCode : (packPayload upper code id).extractLsb' 0 4 = code := by
  rw [packPayload_eq_append, BitVec.extractLsb'_append_eq_right]

@[simp] theorem packPayload_id : (packPayload upper code id).extractLsb' 4 28 = id := by
  rw [packPayload_eq_append, BitVec.extractLsb'_append_eq_of_le (Nat.le_refl 4), BitVec.extractLsb'_append_eq_right]

@[simp] theorem packPayload_highCode : (packPayload upper code id).extractLsb' 32 4 = code := by
  rw [packPayload_eq_append, BitVec.extractLsb'_append_eq_of_le (by decide),
    BitVec.extractLsb'_append_eq_of_le (by decide), BitVec.extractLsb'_append_eq_right]

@[simp] theorem packPayload_upper : (packPayload upper code id).extractLsb' 36 28 = upper := by
  rw [packPayload_eq_append, BitVec.extractLsb'_append_eq_of_le (by decide),
    BitVec.extractLsb'_append_eq_of_le (by decide), BitVec.extractLsb'_append_eq_left]

/-- Below the upper part nothing depends on it (R106). -/
@[simp] theorem packPayload_belowUpper : (packPayload upper code id).extractLsb' 0 36 = code ++ id ++ code :=
  calc (packPayload upper code id).extractLsb' 0 36
    _ = (packPayload upper code id).extractLsb' 32 4 ++ (packPayload upper code id).extractLsb' 4 28 ++
          (packPayload upper code id).extractLsb' 0 4 := by
      rw [BitVec.extractLsb'_append_extractLsb'_eq_extractLsb' (show 32 = 4 + 28 from rfl),
        BitVec.extractLsb'_append_extractLsb'_eq_extractLsb' (show 4 = 0 + 4 from rfl)]
    _ = code ++ id ++ code := by simp only [packPayload_highCode, packPayload_id, packPayload_lowCode]

end

end Sys2Proof.Machine

/-! PROOFS. The statements of 40_payload_encoder.md: the payload as its fields, what two bursts share, and BUILD_PAYLOAD. -/

namespace Sys2Proof.Proofs

open Sys2Proof.Machine

/-- Settles O5: R71's product is two copies of the code, so both sides are the or of the shifted fields. -/
theorem payloadIsConcatenation : Obligations.PayloadIsConcatenation := packPayload_eq_append

/-- Settles O6: each field is read back from the concatenation; the block's payload packs its own constants. -/
theorem payloadFieldsAgree : Obligations.PayloadFieldsAgree :=
  ⟨fun upper code id =>
    ⟨packPayload_lowCode upper code id, packPayload_highCode upper code id, packPayload_id upper code id⟩,
   fun _ => ⟨packPayload_lowCode .., packPayload_highCode .., packPayload_id .., packPayload_upper ..⟩⟩

/-- Settles O7: bits 35:0 do not read the upper part, and bits 63:36 are the upper part. -/
theorem burstsAgreeBelowUpper : Obligations.BurstsAgreeBelowUpper := by
  intro r₁ r₂
  simp only [payloadOf, packPayload_belowUpper, packPayload_upper, and_self]

/-- Settles O8: BUILD_PAYLOAD is enabled in every legal state, and its effect is the payload of the value on `rnd_i`. -/
theorem buildPayloadResult : Obligations.BuildPayloadResult :=
  fun s hl => exec_next hl rfl (buildPayload_eq s).symm

end Sys2Proof.Proofs

/-! SUPPORT. A repetition's data bits read back, and its HIGH slots and rising edges counted (30_encoding.md R79, R80; 41_tx_timing.md R121, R131). -/

namespace Sys2Proof.Machine

open Sys2Proof.Config (Params params)

/-! The run list (R121). -/

theorem expandRuns_flatten_replicate (n : Nat) (rs : List LevelRun) :
    expandRuns (List.replicate n rs).flatten = (List.replicate n (expandRuns rs)).flatten := by
  induction n with
  | zero => rfl
  | succ n ih => simp only [List.replicate_succ, List.flatten_cons, expandRuns_append, ih]

/-- The runs of a repetition stand for its levels. -/
theorem expandRuns_repetitionRuns {p : Params} (hpre : 0 < p.preCycles) (htrailer : 0 < p.trailerBits) (P : Payload) :
    expandRuns (repetitionRuns p P) = repetitionLevels p P := by
  rw [repetitionRuns_eq, expandRuns_repetitionPairs hpre htrailer, List.replicate_zero, List.append_nil]

theorem length_burstLevels (p : Params) (P : Payload) : (burstLevels p P).length = burstT p := by
  rw [burstLevels, List.length_map, List.length_range]

/-! Data bits (R79, R80). -/

/-- The bits of a repetition are the payload's and, behind them, the trailer's ones (R74, R80). -/
theorem map_wireBit (n : Nat) (P : Payload) :
    (List.range (Config.payloadBits + n)).map (wireBit P) = payloadBitsMsbFirst P ++ List.replicate n true := by
  have htrailer : (List.range n).map (fun k => wireBit P (Config.payloadBits + k)) = List.replicate n true :=
    map_range_const _ _ _ fun k _ => wireBit_trailer P (Nat.le_add_right 64 k)
  rw [List.range_add, List.map_append, List.map_map, ← htrailer]
  rfl

theorem decodeGroup_bitLevel (b : Bool) : decodeGroup (bitLevel b 0) (bitLevel b 1) (bitLevel b 2) = some b := by
  cases b <;> rfl

/-- The three slots of a data bit in any repetition of a burst decode to it (R79). -/
theorem decodeDataBit_level (p : Params) (P : Payload) (m : Nat) {k : Nat} (hk : k < Config.payloadBits + p.trailerBits) :
    decodeDataBit p (fun r => level p P (repT p * m + r)) k = some (wireBit P k) := by
  have hslot (j : Nat) (hj : j < 3) :
      level p P (repT p * m + (preT p + p.syncT + (3 * k + j))) = bitLevel (wireBit P k) j := by
    rw [level_block p P m (by simp only [repT, dataT, Config.bitT]; omega), repLevel_data p P hk hj]
  rw [← decodeGroup_bitLevel (wireBit P k), ← hslot 0 (by decide), ← hslot 1 (by decide), ← hslot 2 (by decide)]
  rfl

/-- A list read element by element, where every element is read. -/
theorem mapM_eq_some_map {α β : Type} {f : α → Option β} {g : α → β} {l : List α} (h : ∀ a ∈ l, f a = some (g a)) :
    l.mapM f = some (l.map g) := by
  induction l with
  | nil => rfl
  | cons a l ih =>
    rw [List.forall_mem_cons] at h
    rw [List.mapM_cons, h.1, ih h.2]
    rfl

/-- Any repetition of a burst decodes to the payload and the trailer (R79, R132). -/
theorem decodeRepetition_level (p : Params) (P : Payload) (m : Nat) :
    decodeRepetition p (fun r => level p P (repT p * m + r)) =
      some (payloadBitsMsbFirst P ++ List.replicate p.trailerBits true) := by
  rw [← map_wireBit]
  exact mapM_eq_some_map fun k hk => decodeDataBit_level p P m (List.mem_range.1 hk)

/-- A payload is its bits on the wire (R80). -/
theorem payloadBitsMsbFirst_injective {P Q : Payload} (h : payloadBitsMsbFirst P = payloadBitsMsbFirst Q) : P = Q := by
  refine BitVec.eq_of_getLsbD_eq fun i hi => ?_
  have hbit : wireBit P (63 - i) = wireBit Q (63 - i) :=
    List.map_inj_left.1 h (63 - i) (List.mem_range.2 (show 63 - i < 64 by omega))
  rwa [wireBit_payload P (by omega), wireBit_payload Q (by omega), Nat.sub_sub_self (by omega)] at hbit

/-! HIGH slots (R131). -/

@[simp] theorem highCount_append (ls ms : List Level) : highCount (ls ++ ms) = highCount ls + highCount ms :=
  List.count_append

@[simp] theorem highCount_low (n : Nat) : highCount (List.replicate n false) = 0 := by
  simp [highCount, List.count_replicate]

theorem highCount_cycles (n : Nat) : highCount ((List.range n).flatMap fun _ => [true, false]) = n := by
  simp [highCount, List.count_flatMap, Function.comp_def]

/-- A bit 1 has one HIGH slot and a bit 0 has two, so slots and ones together make two for each bit. -/
theorem highCount_bits (w : Nat → Bool) (ks : List Nat) :
    highCount (ks.flatMap fun k => [true, !w k, false]) + (ks.map w).count true = 2 * ks.length := by
  induction ks with
  | nil => rfl
  | cons k ks ih =>
    have hbit : highCount [true, !w k, false] + [w k].count true = 2 := by cases w k <;> rfl
    rw [List.flatMap_cons, highCount_append, List.map_cons, ← List.singleton_append (l := ks.map w), List.count_append,
      List.length_cons]
    omega

/-- Each preamble cycle, trailer bit and payload bit 1 has one HIGH slot, each payload bit 0 has two. -/
theorem highCount_repetition (p : Params) (P : Payload) :
    highCount (repetitionLevels p P) + popcount P = p.preCycles + 2 * Config.payloadBits + p.trailerBits := by
  have hdata := highCount_bits (wireBit P) (List.range (Config.payloadBits + p.trailerBits))
  rw [map_wireBit, List.count_append, List.count_replicate_self, List.length_range, ← popcount] at hdata
  rw [repetitionLevels_regions, highCount_append, highCount_append, highCount_append, highCount_cycles, highCount_low,
    highCount_low]
  omega

theorem highCount_burst (p : Params) (P : Payload) :
    highCount (burstLevels p P) = p.reps * highCount (repetitionLevels p P) := by
  simp [burstLevels_repetitions, highCount, List.count_flatten]

/-! Rising edges (R131). -/

/-- A LOW stretch has no rising edge. -/
theorem risingEdges_low (n : Nat) (rest : List Level) :
    risingEdges false (List.replicate n false ++ rest) = risingEdges false rest := by
  induction n with
  | zero => rfl
  | succ n ih => simpa [List.replicate_succ, risingEdges] using ih

/-- Blocks that each rise once from LOW and end LOW have an edge each. -/
theorem risingEdges_flatMap {f : Nat → List Level}
    (hf : ∀ k rest, risingEdges false (f k ++ rest) = 1 + risingEdges false rest) (ks : List Nat) (rest : List Level) :
    risingEdges false (ks.flatMap f ++ rest) = ks.length + risingEdges false rest := by
  induction ks with
  | nil => simp
  | cons k ks ih =>
    rw [List.flatMap_cons, List.append_assoc, hf, ih, List.length_cons]
    omega

/-- Each preamble cycle and each data bit rises once, and the gaps do not. -/
theorem risingEdges_repetition (p : Params) (P : Payload) :
    risingEdges false (repetitionLevels p P) = p.preCycles + (Config.payloadBits + p.trailerBits) := by
  have hcycle (k : Nat) (rest : List Level) : risingEdges false ([true, false] ++ rest) = 1 + risingEdges false rest := by
    simp [risingEdges]
  have hbit (k : Nat) (rest : List Level) :
      risingEdges false ([true, !wireBit P k, false] ++ rest) = 1 + risingEdges false rest := by
    simp [risingEdges]
  have hgap : risingEdges false (List.replicate p.gapT false) = 0 := by
    simpa [risingEdges] using risingEdges_low p.gapT []
  rw [repetitionLevels_regions, List.append_assoc, List.append_assoc, risingEdges_flatMap hcycle, risingEdges_low,
    risingEdges_flatMap hbit, hgap, List.length_range, List.length_range, Nat.add_zero]

end Sys2Proof.Machine

/-! SUPPORT. The generator's events in a burst (41_tx_timing.md R126 to R129): TX_UNIT below the last slot and at it, the symbol that ends a burst, and any interleaving that does not reach the end. -/

namespace Sys2Proof.Machine

open Sys2Proof.Config (Params params)

variable {p : Params} {s t : State p}

/-! The pin (R126). -/

theorem txO_of_busy (h : s.txBusy = true) : s.txO = level p s.txPayload s.txSlot.toNat := by
  rw [State.txO, h, Bool.true_and]

theorem txO_of_not_busy (h : s.txBusy = false) : s.txO = false := by
  rw [State.txO, h, Bool.false_and]

/-! A burst's end (R128). -/

theorem txUnit_of_lt (h : s.txSlot.toNat + 1 < burstT p) : s.txUnit = { s with txSlot := s.txSlot + 1 } := if_pos h

theorem txUnit_of_last (h : s.txSlot.toNat + 1 = burstT p) : s.txUnit = s.txEnd := if_neg (Nat.not_lt.2 h.ge)

theorem txEnd_txO (s : State p) : s.txEnd.txO = false := txO_of_not_busy (txEnd_fields s).1

/-- A symbol that closes the last slot ends the burst, as the TX_UNIT of that slot does (R76, R128; log 6). -/
theorem perform_symbol_last {i : Instr} (hl : s.Legal) (hb : s.txBusy = true)
    (h : symbolStart p s.txPayload (s.txSlot.toNat % repT p) = some i)
    (hend : s.txSlot.toNat + (symbolLevels p i).length = burstT p) :
    s.perform i = .next ({ s with txSlot := BitVec.ofNat _ (burstT p - 1) } : State p).txEnd := by
  obtain ⟨hpos, -, hk, -⟩ := symbolStart_bounds h
  refine perform_next hl ?_ ?_
  · rw [enabled_symbol hk, atSymbol_iff]
    exact ⟨hb, h⟩
  · rw [effect_symbol hk, State.sendUnits, txUnits_to_end _ _ hpos hend]

/-! What goes on in a burst (R129). -/

/-- The burst goes on: payload, permit and snapshot stay, and the slot is not lower. -/
abbrev State.GoesOn (s t : State p) : Prop :=
  t.txBusy = true ∧ t.txPayload = s.txPayload ∧ t.txAllowed = s.txAllowed ∧ s.txSlot.toNat ≤ t.txSlot.toNat ∧
    t.tkNow = s.tkNow ∧ t.tkBtn = s.tkBtn ∧ t.tkChg = s.tkChg

theorem State.GoesOn.refl (hb : s.txBusy = true) : s.GoesOn s := ⟨hb, rfl, rfl, Nat.le_refl _, rfl, rfl, rfl⟩

theorem State.GoesOn.moveSlot (hb : s.txBusy = true) {n : Nat} (h : s.txSlot.toNat + n < burstT p) :
    s.GoesOn { s with txSlot := s.txSlot + BitVec.ofNat _ n } :=
  ⟨hb, rfl, rfl, slot_add_toNat h ▸ Nat.le_add_right _ _, rfl, rfl, rfl⟩

/-- In a burst under the invariants nothing is enabled that starts or finishes a tick, or leaves sleep (R125, R152, R155, R160, R185). -/
theorem State.BlockInv.not_enabled_of_busy (h : s.BlockInv) (hb : s.txBusy = true) {i : Instr}
    (hi : i ∈ [.tick, .wake, .txStart, .tickB, .sleepEnter]) : s.enabled i = false := by
  have hw : s.ctrlState ≠ .sleeping := (h.isAwake_of_busy hb).ne_sleeping
  have hplace : s.tickBPlace = false := by simp [State.tickBPlace, hb]
  simp only [List.mem_cons, List.not_mem_nil, or_false] at hi
  obtain rfl | rfl | rfl | rfl | rfl := hi
  · simp [State.enabled, State.tickEnabled, hb]
  · simp [State.enabled, State.wakeEnabled, hw]
  · simp [State.enabled, State.txStartPlace, hb]
  · exact hplace
  · simp [State.enabled, State.sleepEnterPlace, hplace]

/-! Any interleaving inside a burst (R120, R215). -/

/-- The state after `n` TX_UNITs and `m` MS_TICKs inside a burst, with the pins as they are then. -/
def State.progressed (s : State p) (n m : Nat) (b c : Level) : State p :=
  { s with txSlot := s.txSlot + BitVec.ofNat _ n, nowMs := s.nowMs + BitVec.ofNat _ m, buttonN := b, chargerN := c }

theorem progressed_progressed (n m n' m' : Nat) (b c b' c' : Level) :
    (s.progressed n m b c).progressed n' m' b' c' = s.progressed (n + n') (m + m') b' c' := by
  simp only [State.progressed, BitVec.add_assoc, BitVec.ofNat_add]

theorem progressed_zero (s : State p) (b c : Level) : s.progressed 0 0 b c = s.setPins b c := by
  simp [State.progressed, setPins_eq]

theorem progressed_legal (hl : s.Legal) {n m : Nat} {b c : Level} (h : s.txSlot.toNat + n < burstT p) :
    (s.progressed n m b c).Legal :=
  ⟨hl.1, fun _ => slot_add_toNat h ▸ h⟩

/-- One event inside a burst. -/
theorem exec_duringBurst {i : Instr} {s : State} (hi : duringBurst i = true) (hl : s.Legal) (hb : s.txBusy = true)
    (h : s.txSlot.toNat + [i].count .txUnit < burstT params) :
    ∃ b c, exec i s = .next (s.progressed ([i].count .txUnit) ([i].count .msTick) b c) := by
  cases i with
  | txUnit =>
    refine ⟨s.buttonN, s.chargerN, ?_⟩
    rw [exec_txUnit_of_busy hl hb, txUnit_of_lt h]
    simp [State.progressed]
  | msTick =>
    refine ⟨s.buttonN, s.chargerN, ?_⟩
    rw [exec_msTick_of_legal hl]
    simp [State.progressed, msTick_eq]
  | setInputs b c => exact ⟨b, c, by rw [exec_setInputs_of_legal hl, ← progressed_zero]; rfl⟩
  | _ => cases hi

/-- Any interleaving with fewer TX_UNITs than the burst still needs runs and moves the burst by them. -/
theorem execAll_duringBurst {es : List Instr} {s : State} (hes : es.all duringBurst = true) (hl : s.Legal)
    (hb : s.txBusy = true) (h : s.txSlot.toNat + es.count .txUnit < burstT params) :
    ∃ b c, execAll es s = .next (s.progressed (es.count .txUnit) (es.count .msTick) b c) := by
  induction es generalizing s with
  | nil => exact ⟨s.buttonN, s.chargerN, by rw [List.count_nil, List.count_nil, progressed_zero]; rfl⟩
  | cons i es ih =>
    rw [List.all_cons, Bool.and_eq_true] at hes
    obtain ⟨hi, hes⟩ := hes
    rw [← List.singleton_append, List.count_append] at h
    have hfirst : s.txSlot.toNat + [i].count .txUnit < burstT params := by omega
    obtain ⟨b, c, he⟩ := exec_duringBurst hi hl hb hfirst
    have hrest : (s.progressed ([i].count .txUnit) ([i].count .msTick) b c).txSlot.toNat + es.count .txUnit <
        burstT params := by
      rw [State.progressed, slot_add_toNat hfirst, Nat.add_assoc]
      exact h
    obtain ⟨b', c', hrun⟩ := ih hes (progressed_legal hl hfirst) hb hrest
    refine ⟨b', c', ?_⟩
    rw [← List.singleton_append (l := es), List.count_append, List.count_append, ← progressed_progressed, ← hrun,
      List.singleton_append, execAll, he]

end Sys2Proof.Machine

/-! PROOFS. The statements of 41_tx_timing.md: the run list, the wire round trip and the HIGH time, the pin, and a burst's events up to its end. -/

namespace Sys2Proof.Proofs

open Sys2Proof.Machine
open Sys2Proof.Config (Params params)

/-- Settles O14: each data bit is read back from its three slots, and a payload is its 64 bits. -/
theorem wireRoundTrip : Obligations.WireRoundTrip :=
  ⟨fun P m _ => decodeRepetition_level params P m, fun _ _ => payloadBitsMsbFirst_injective⟩

/-- Settles O24: by induction along the sequence each event moves the burst by what it counts. -/
theorem burstProgress : Obligations.BurstProgress := by
  intro es s hl hb hes h
  obtain ⟨b, c, hrun⟩ := execAll_duringBurst hes hl hb h
  exact ⟨_, hrun, hb, slot_add_toNat h, rfl, rfl, rfl, rfl, rfl, rfl, rfl⟩

/-- Settles O25: along the sequence less and less of the burst is left, and in the end nothing. -/
theorem burstRunsToItsEnd : Obligations.BurstRunsToItsEnd := by
  intro es s hs hb hes h
  have hleft : s.BurstLeft (es.count .txUnit) := ⟨hs, .inl ⟨hb, h⟩⟩
  obtain ⟨t, hrun, hend, hnow⟩ := hleft.execAll hes
  obtain ⟨hbusy, hpermit⟩ := hend.ended
  exact ⟨t, hrun, hbusy, hpermit, txO_of_not_busy hbusy, hnow, hend.inv⟩

/-- Settles O12: a repetition's runs stand for its levels, and both burst lists are repetitions one after another. -/
theorem runListIsLevelFunction : Obligations.RunListIsLevelFunction := by
  intro p P hpre htrailer
  refine ⟨?_, length_burstLevels p P⟩
  rw [burstRuns, expandRuns_flatten_replicate, expandRuns_repetitionRuns hpre htrailer, burstLevels_repetitions]

/-- Settles O15: HIGH slots and edges region by region, and a burst is four repetitions. -/
theorem highTime : Obligations.HighTime := by
  have hrep (P : Payload) : highCount (repetitionLevels params P) = 142 - popcount P :=
    Nat.eq_sub_of_add_eq (highCount_repetition params P)
  have hburst (P : Payload) : highCount (burstLevels params P) = 4 * (142 - popcount P) :=
    (highCount_burst params P).trans (congrArg (4 * ·) (hrep P))
  have hzeros : popcount 0 = 0 := by decide
  have hones : popcount 0xFFFFFFFFFFFFFFFF = 64 := by decide
  refine ⟨fun P => ⟨hrep P, hburst P, risingEdges_repetition params P⟩, ?_, ?_⟩
  · rw [hburst, hzeros]
  · rw [hburst, hones]

/-- Settles O20: the last TX_UNIT is TX_END, and TX_END is TICK_B behind the clearing of busy and permit. -/
theorem lastTxUnitEndsBurst : Obligations.LastTxUnitEndsBurst := by
  intro s ha hb hlast
  have hl : s.Legal := ⟨ha.ne_reserved, fun _ => Nat.lt_of_succ_le hlast.le⟩
  obtain ⟨hbusy, hpermit, hslot, hpayload, -⟩ := txEnd_fields s
  refine ⟨s.txEnd, ?_, ?_, ?_, hbusy, hpermit, txEnd_txO s, hslot, hpayload⟩
  · rw [exec_txUnit_of_busy hl hb, txUnit_of_last hlast]
  · exact exec_next hl (txEndPlace_iff.2 ⟨hb, hlast⟩) rfl
  · exact exec_tickB_of_place (s := { s with txBusy := false, txAllowed := false }) ha rfl rfl

/-- Settles O22: 39 slots before the end the last PKT_GAP begins; its units and the TX_UNIT of slot 1083 end the burst alike. -/
theorem lastGapEndsBurst : Obligations.LastGapEndsBurst := by
  intro s ha hb hend
  have hslot : s.txSlot.toNat = 1045 := Nat.add_right_cancel hend
  have hl : s.Legal := ⟨ha.ne_reserved, fun _ => by rw [hslot]; decide⟩
  have hgap : symbolStart params s.txPayload (s.txSlot.toNat % repT params) = some .pktGap := by
    rw [hslot]
    rfl
  have hl' : State.Legal { s with txSlot := 1083 } := ⟨ha.ne_reserved, fun _ => (by decide : 1083 < 1084)⟩
  obtain ⟨hbusy, hpermit, -⟩ := txEnd_fields { s with txSlot := 1083 }
  refine ⟨_, ?_, ?_, hbusy, hpermit, txEnd_txO _⟩
  · rw [exec_eq, perform_symbol_last hl hb hgap hend]
    rfl
  · rw [exec_txUnit_of_busy hl' hb, txUnit_of_last rfl]

/-- Settles O23: a symbol or TX_UNIT moves the slot up or ends the burst, TX_END ends it, and what would start or finish a tick is not enabled. -/
theorem onlyResetStopsBurst : Obligations.OnlyResetStopsBurst := by
  intro i s t hb hi h hs
  by_cases hk : i.kind = .symbol
  · obtain ⟨-, -, ⟨hlt, rfl⟩ | ⟨rfl, hend, rfl⟩⟩ := exec_symbol_cases hk h
    · exact .inl (State.GoesOn.moveSlot hb hlt)
    · obtain ⟨hbusy, hpermit, -⟩ := txEnd_fields ({ s with txSlot := 1083 } : State)
      exact .inr ⟨hbusy, hpermit, by simp, hend⟩
  obtain ⟨-, he, rfl⟩ := exec_eq_next_iff.1 h
  cases i
  case msTick | setInputs | buildPayload => exact .inl (State.GoesOn.refl (s := s) hb)
  case txUnit =>
    rw [State.effect]
    rcases txUnit_cases s with ⟨hlt, e⟩ | ⟨hle, e⟩ <;> rw [e]
    · exact .inl (State.GoesOn.moveSlot hb hlt)
    · obtain ⟨hbusy, hpermit, -⟩ := txEnd_fields s
      exact .inr ⟨hbusy, hpermit, by simp, Nat.le_antisymm (hs.busyAwake hb).2 hle⟩
  case txEnd =>
    obtain ⟨hbusy, hpermit, -⟩ := txEnd_fields s
    exact .inr ⟨hbusy, hpermit, by simp, (txEndPlace_iff.1 he).2⟩
  case tick | wake | txStart | tickB | sleepEnter =>
    exact absurd he (ne_true_of_eq_false (hs.not_enabled_of_busy hb (by simp)))
  case reset => exact absurd rfl hi
  all_goals exact absurd rfl hk

/-- Settles O17: by the two cases of `tx_busy`. -/
theorem outputLevel : Obligations.OutputLevel := fun _ => ⟨txO_of_busy, txO_of_not_busy⟩

/-- Settles O19: below the last slot TX_UNIT takes its first way, and the slot's register does not wrap. -/
theorem txUnitAdvances : Obligations.TxUnitAdvances := by
  have advances (p : Params) (s : State p) (hc : s.ctrlState ≠ .reserved11) (hb : s.txBusy = true)
      (h : s.txSlot.toNat + 1 < burstT p) : s.perform .txUnit = .next { s with txSlot := s.txSlot + 1 } :=
    perform_next ⟨hc, fun _ => Nat.lt_of_succ_lt h⟩ hb (txUnit_of_lt h).symm
  exact ⟨fun s hc hb h => (exec_eq _ _).trans (advances params s hc hb h),
    fun p s hc hb h => ⟨advances p s hc hb h, slot_succ_toNat h⟩⟩

end Sys2Proof.Proofs

/-! SUPPORT. The activity controller (42_activity_controller.md): a TICK's answer by what its snapshot sees (R152 to R160), the millisecond arithmetic (R150, R151), and the cooldown along a sequence of events (R164). -/

namespace Sys2Proof.Machine

open Sys2Proof.Config (Params)

variable {p : Params}

/-! Millisecond arithmetic. -/

/-- One millisecond more, modulo 2^TW (R150); at a width of 0 too, where both sides are 0. -/
theorem toNat_add_one {w : Nat} (n : BitVec w) : (n + 1).toNat = (n.toNat + 1) % 2 ^ w := by
  rw [BitVec.toNat_add, BitVec.ofNat_eq_ofNat, BitVec.toNat_ofNat, Nat.add_mod_mod]

/-- What has elapsed since a time that lies `k` milliseconds back is `k`, modulo 2^TW (R151). -/
theorem elapsed_add {w : Nat} (ts k : BitVec w) : elapsed ts (ts + k) = k := by
  rw [elapsed, BitVec.add_comm, BitVec.add_sub_cancel]

/-! A TICK by what its snapshot sees. -/

section
variable {s : State p}

theorem perform_tick_of_awake (ha : s.IsAwake) (hb : s.txBusy = false) : s.perform .tick = .next s.tick :=
  perform_next (legal_of_awake_idle ha hb) (tickEnabled_iff.2 ⟨ha, hb⟩) rfl

/-- Without heartbeat and permit an input refreshes `idle_ts` in phase B (R155, R156). -/
theorem tick_of_input (hh : ¬ s.HeartbeatHolds) (hp : s.txAllowed = false)
    (hin : s.buttonN = false ∨ s.chargerN = false) :
    s.tick = { s.takeSnapshot with idleTs := s.nowMs, ctrlState := .awakeActive } := by
  have hseen : s.takeSnapshot.tkBtn = true ∨ s.takeSnapshot.tkChg = true :=
    hin.imp (congrArg not) (congrArg not)
  rw [tick_of_no_permit hh hp, tickB_eq, if_pos hseen]
  rfl

/-- With both pins HIGH and no permit the idle time alone decides between sleep and AWAKE_IDLE (R155, R157): a heartbeat needs the charger (R153). -/
theorem tick_of_no_input (hp : s.txAllowed = false) (hbtn : s.buttonN = true) (hchg : s.chargerN = true) :
    s.tick =
      if p.idleMs ≤ (s.nowMs - s.idleTs).toNat then
        State.sleepEnter { s with tkNow := s.nowMs, tkBtn := false, tkChg := false }
      else { s with tkNow := s.nowMs, tkBtn := false, tkChg := false, ctrlState := .awakeIdle } := by
  have hh : ¬ s.HeartbeatHolds := fun h => nomatch hchg.symm.trans h.1
  have hsnap : s.takeSnapshot = { s with tkNow := s.nowMs, tkBtn := false, tkChg := false } := by
    rw [takeSnapshot_eq, State.btn, State.chg, hbtn, hchg]
    rfl
  rw [tick_of_no_permit hh hp, hsnap, tickB_eq]
  exact if_neg (by simp)

/-- A heartbeat restarts the cooldown at its tick's time (R153). -/
theorem tick_cooldownTs (h : s.HeartbeatHolds) : s.tick.cooldownTs = s.nowMs := by
  rw [tick_of_permit (.inl h), txStart_eq]
  exact if_pos h

end

/-! The cooldown along a sequence of events. -/

/-- A sequence that runs has run its first event, and the rest from there. -/
theorem execAll_cons_eq_next {i : Instr} {es : List Instr} {s u : State} (h : execAll (i :: es) s = .next u) :
    ∃ t, exec i s = .next t ∧ execAll es t = .next u := by
  rw [execAll] at h
  cases e : exec i s with
  | next t => exact ⟨t, rfl, by rwa [e] at h⟩
  | fault r => simp [e] at h
  | refused r => simp [e] at h

theorem keepsCooldown_cons {i : Instr} {es : List Instr} {s t : State} (e : exec i s = .next t) :
    keepsCooldown (i :: es) s = true ↔ restartsCooldown i s = false ∧ keepsCooldown es t = true := by
  simp [keepsCooldown, e]

theorem restartsCooldown_eq_false_iff {i : Instr} {s : State} :
    restartsCooldown i s = false ↔ i ≠ .reset ∧ i ≠ .wake ∧ ¬ (i = .tick ∧ s.HeartbeatHolds) := by
  simp only [restartsCooldown, Bool.or_eq_false_iff, decide_eq_false_iff_not, ← Bool.decide_and, and_assoc, ne_eq]

/-- Beside RESET, WAKE and the heartbeat nothing writes `cooldown_ts` (R25). -/
theorem exec_keeps_cooldownTs {i : Instr} {s t : State} (hi : restartsCooldown i s = false)
    (h : exec i s = .next t) : t.cooldownTs = s.cooldownTs := by
  obtain ⟨hreset, hwake, hgrant⟩ := restartsCooldown_eq_false_iff.1 hi
  obtain hkept | ⟨rfl, -⟩ | ⟨rfl, hh, -⟩ := (Proofs.timestampWriters i s t hreset h).2
  · exact hkept
  · exact absurd rfl hwake
  · exact absurd ⟨rfl, hh⟩ hgrant

theorem execAll_keeps_cooldownTs {es : List Instr} {s u : State} (hes : keepsCooldown es s = true)
    (h : execAll es s = .next u) : u.cooldownTs = s.cooldownTs := by
  induction es generalizing s with
  | nil =>
    cases h
    rfl
  | cons i es ih =>
    obtain ⟨t, ht, hu⟩ := execAll_cons_eq_next h
    obtain ⟨hi, hrest⟩ := (keepsCooldown_cons ht).1 hes
    exact (ih hrest hu).trans (exec_keeps_cooldownTs hi ht)

end Sys2Proof.Machine

/-! PROOFS. The statements of 42_activity_controller.md: the two simple events, elapsed time, a TICK's four outcomes, and the spacing of heartbeats. -/

namespace Sys2Proof.Proofs

open Sys2Proof.Machine

/-- Settles O35: along the sequence `cooldown_ts` stays at the first grant's time, from which the second one measures its cooldown. -/
theorem heartbeatSpacing : Obligations.HeartbeatSpacing := by
  intro es s t u hgrant htick hes hrun ⟨_, hcooldown⟩
  obtain ⟨-, -, rfl⟩ := exec_eq_next_iff.1 htick
  have hts : u.cooldownTs = s.nowMs := (execAll_keeps_cooldownTs hes hrun).trans (tick_cooldownTs hgrant)
  rwa [hts] at hcooldown

/-- Settles O29: the TICK is TX_START behind the snapshot and the heartbeat. -/
theorem tickStartsBurst : Obligations.TickStartsBurst := by
  refine ⟨fun s ha hb h => ?_, fun p s ha hb h => ?_⟩
  · rw [exec_tick_of_awake ha hb, tick_of_permit h, txStart_eq]
  · rw [perform_tick_of_awake ha hb, tick_of_permit h, txStart_eq]

/-- Settles O26: MS_TICK is enabled in every legal state and writes `now_ms` alone. -/
theorem msTickResult : Obligations.MsTickResult :=
  ⟨fun s hl => ⟨exec_msTick_of_legal hl, toNat_add_one s.nowMs⟩,
   fun _ s hl => ⟨perform_next hl rfl rfl, toNat_add_one s.nowMs⟩⟩

/-- Settles O27: subtraction of words is the difference modulo 2^TW, and it undoes the addition of the elapsed time. -/
theorem elapsedIsTrueTime : Obligations.ElapsedIsTrueTime := by
  refine fun p ts n => ⟨BitVec.toNat_sub' n ts, fun threshold => elapsedAtLeast_iff, fun k hk => ?_⟩
  rw [elapsed_add, BitVec.toNat_ofNat, Nat.mod_eq_of_lt hk]

/-- Settles O28: SET_INPUTS is enabled in every legal state and writes the pins alone. -/
theorem setInputsResult : Obligations.SetInputsResult := fun b c _ hl => exec_setInputs_of_legal hl b c

/-- Settles O30: phase B takes its first way, with the snapshot's time as `idle_ts`. -/
theorem tickRefreshesIdle : Obligations.TickRefreshesIdle := by
  intro s ha hb hh hp hin
  rw [exec_tick_of_awake ha hb, tick_of_input hh hp hin]
  rfl

/-- Settles O31: with no input and the idle time elapsed phase B is SLEEP_ENTER. -/
theorem tickEntersSleep : Obligations.TickEntersSleep := by
  refine ⟨fun s ha hb hp hbtn hchg hidle => ?_, fun p s ha hb hp hbtn hchg hidle => ?_⟩
  · rw [exec_tick_of_awake ha hb, tick_of_no_input hp hbtn hchg, if_pos hidle, sleepEnter_eq]
  · rw [perform_tick_of_awake ha hb, tick_of_no_input hp hbtn hchg, if_pos hidle, sleepEnter_eq]

/-- Settles O32: with no input and the idle time not elapsed phase B takes its last way. -/
theorem tickStaysAwake : Obligations.TickStaysAwake := by
  intro s ha hb hp hbtn hchg hidle
  rw [exec_tick_of_awake ha hb, tick_of_no_input hp hbtn hchg, if_neg (Nat.not_le.2 hidle)]

end Sys2Proof.Proofs

/-! SUPPORT. Sleep and wake (60_exceptions.md R182 to R196): what can run while the block sleeps, what phase B leaves where it enters sleep, and which time base's or interrupt's event is due. -/

namespace Sys2Proof.Machine

open Sys2Proof.Config (Params)

variable {p : Params}

/-! WAKE (R185). -/

/-- A next state of WAKE: SLEEPING with a request before it, and its writes made. -/
theorem exec_wake_eq_next {s t : State} (h : exec .wake s = .next t) :
    (s.ctrlState = .sleeping ∧ s.WakeRequested) ∧ t = s.takeWake := by
  obtain ⟨-, he, ht⟩ := exec_eq_next_iff.1 h
  exact ⟨wakeEnabled_iff.1 he, ht⟩

/-- The block awake, there is nothing to wake (R186, R190). -/
theorem exec_wake_of_awake {s : State} (ha : s.IsAwake) (hl : s.Legal) : exec .wake s = .refused .notEnabled :=
  (exec_notEnabled_iff hl (by decide)).2 fun he => ha.ne_sleeping (wakeEnabled_iff.1 he).1

/-! Which event is due (R59, R186). -/

/-- Of TX_UNIT, WAKE and TICK the one that a burst, sleep, or neither leaves possible. -/
def State.dueEvent (s : State p) : Instr :=
  if s.txBusy then .txUnit else if s.ctrlState = .sleeping then .wake else .tick

/-- Under the invariants none of the three is enabled but the one that is due. -/
theorem State.BlockInv.eq_dueEvent {s : State p} (h : s.BlockInv) {i : Instr} (hi : i ∈ [.tick, .txUnit, .wake])
    (he : s.enabled i = true) : i = s.dueEvent := by
  simp only [List.mem_cons, List.not_mem_nil, or_false] at hi
  obtain rfl | rfl | rfl := hi
  · obtain ⟨ha, hb⟩ := tickEnabled_iff.1 he
    simp [State.dueEvent, hb, ha.ne_sleeping]
  · have hb : s.txBusy = true := he
    simp [State.dueEvent, hb]
  · have hc := (wakeEnabled_iff.1 he).1
    simp [State.dueEvent, (h.asleepQuiet hc).1, hc]

/-! While the block sleeps (R196). -/

/-- In sleep, beside WAKE and RESET, only MS_TICK, SET_INPUTS and BUILD_PAYLOAD answer a next state: all else needs a burst or an awake block. -/
theorem State.BlockInv.exec_in_sleep {s t : State} (h : s.BlockInv) (hc : s.ctrlState = .sleeping) {i : Instr}
    (hwake : i ≠ .wake) (hreset : i ≠ .reset) (e : exec i s = .next t) :
    (i = .msTick ∧ t = s.msTick) ∨ (∃ b c, i = .setInputs b c ∧ t = s.setPins b c) ∨
      (i = .buildPayload ∧ t = s.buildPayload) := by
  have hidle : ¬ s.txBusy = true := by simp [h.asleepQuiet hc]
  have hasleep : ¬ s.IsAwake := fun ha => ha.ne_sleeping hc
  by_cases hk : i.kind = .symbol
  · exact absurd (exec_symbol_cases hk e).2.1 hidle
  obtain ⟨-, he, rfl⟩ := exec_eq_next_iff.1 e
  cases i
  case msTick => exact .inl ⟨rfl, rfl⟩
  case setInputs b c => exact .inr (.inl ⟨b, c, rfl, rfl⟩)
  case buildPayload => exact .inr (.inr ⟨rfl, rfl⟩)
  case tick => exact absurd (tickEnabled_iff.1 he).1 hasleep
  case txStart => exact absurd (txStartPlace_iff.1 he).1 hasleep
  case tickB => exact absurd (tickBPlace_iff.1 he).1 hasleep
  case sleepEnter => exact absurd (sleepEnterPlace_iff.1 he).2.1 hasleep
  case txUnit => exact absurd he hidle
  case txEnd => exact absurd (txEndPlace_iff.1 he).1 hidle
  case wake => exact absurd rfl hwake
  case reset => exact absurd rfl hreset
  all_goals exact absurd rfl hk

/-! Sleep entry (R157, R160, R195). -/

/-- R155, R157: the snapshot saw no input, and the idle time has elapsed at it. -/
abbrev State.IdleAtSnapshot (t : State p) : Prop :=
  t.tkBtn = false ∧ t.tkChg = false ∧ p.idleMs ≤ (t.tkNow - t.idleTs).toNat

/-- A phase B that ends in sleep has found the idle condition, and leaves what it has read. -/
theorem tickB_sleeping {s : State p} (h : s.tickB.ctrlState = .sleeping) :
    s.tickB.IdleAtSnapshot ∧ s.tickB.idleTs = s.idleTs := by
  rcases tickB_cases s with ⟨-, e⟩ | ⟨hinput, hdue, e⟩ | ⟨-, -, e⟩ <;> rw [e] at h ⊢
  · cases h
  · obtain ⟨hbtn, hchg⟩ : s.tkBtn = false ∧ s.tkChg = false := by simpa [State.inputActive] using hinput
    exact ⟨⟨hbtn, hchg, idleDue_iff.1 hdue⟩, rfl⟩
  · cases h

/-- Only a phase B, in a TICK, at a burst's end or by itself, and SLEEP_ENTER at its place enter sleep. -/
theorem exec_enters_sleep {i : Instr} {s t : State} (e : exec i s = .next t) (hs : s.ctrlState ≠ .sleeping)
    (ht : t.ctrlState = .sleeping) : t.IdleAtSnapshot ∧ t.idleTs = s.idleTs := by
  obtain ⟨-, he, heff⟩ := exec_eq_next_iff.1 e
  by_cases hreset : i = .reset
  · subst hreset heff
    cases ht
  cases exec_effect hreset e with
  | tickFinishes | burstEnds | tickB => exact tickB_sleeping ht
  | sleepEnter => exact ⟨(sleepEnterPlace_iff.1 he).1, rfl⟩
  | wake => cases ht
  | _ => exact absurd ht hs

/-! The arming bits and the drivers (R26, R31, R184). -/

/-- Both arming bits and both drivers are as they were. -/
abbrev State.SamePower (s t : State p) : Prop :=
  t.irqBtnEn = s.irqBtnEn ∧ t.irqChgEn = s.irqChgEn ∧ t.adcEn = s.adcEn ∧ t.ledOff = s.ledOff

/-- SLEEPING, with both sources armed and both drivers off (R160). -/
abbrev State.PoweredDown (t : State p) : Prop :=
  t.ctrlState = .sleeping ∧ t.irqBtnEn = true ∧ t.irqChgEn = true ∧ t.adcEn = false ∧ t.ledOff = true

theorem tickB_power (s : State p) : s.SamePower s.tickB ∨ s.tickB.PoweredDown := by
  rcases tickB_cases s with ⟨-, e⟩ | ⟨-, -, e⟩ | ⟨-, -, e⟩ <;> rw [e]
  · exact .inl ⟨rfl, rfl, rfl, rfl⟩
  · exact .inr ⟨rfl, rfl, rfl, rfl, rfl⟩
  · exact .inl ⟨rfl, rfl, rfl, rfl⟩

end Sys2Proof.Machine

/-! PROOFS. The statements of 60_exceptions.md: WAKE and what follows it, the reserved codes, sleep's entry, exit and frame, and who arms the wake sources. -/

namespace Sys2Proof.Proofs

open Sys2Proof.Machine

/-- Settles O37: WAKE is enabled in SLEEPING with a request alone, and its effect is the record of its writes. -/
theorem wakeResult : Obligations.WakeResult :=
  ⟨fun _ hc hl hreq => exec_next hl (wakeEnabled_iff.2 ⟨hc, hreq⟩) rfl, fun _ _ h => (exec_wake_eq_next h).1⟩

/-- Settles O38: WAKE leaves the block awake, so no second one is enabled, and with a permit, which the pins do not touch, so the TICK starts a burst. -/
theorem wakeOnceThenBurst : Obligations.WakeOnceThenBurst := by
  intro b c s t hb h
  obtain ⟨-, rfl⟩ := exec_wake_eq_next h
  have ha : s.takeWake.IsAwake := .inl rfl
  have hl : s.takeWake.Legal := legal_of_awake_idle ha hb
  refine ⟨exec_wake_of_awake ha hl, s.takeWake.setPins b c, (s.takeWake.setPins b c).tick,
    exec_setInputs_of_legal hl b c, exec_tick_of_awake ha hb, ?_⟩
  rw [tick_of_permit (.inr rfl)]
  exact ⟨rfl, rfl, rfl⟩

/-- Settles O39: both of two such events are the one that is due. -/
theorem neverEnabledTogether : Obligations.NeverEnabledTogether := by
  intro i j s t u hs hi hj hit hju
  obtain ⟨-, hie, -⟩ := exec_eq_next_iff.1 hit
  obtain ⟨-, hje, -⟩ := exec_eq_next_iff.1 hju
  exact (hs.eq_dueEvent hi hie).trans (hs.eq_dueEvent hj hje).symm

/-- Settles O40: the guard of every operation but RESET tests for a reserved code first, and the reset state meets the invariants, which hold none. -/
theorem reservedStateFaults : Obligations.ReservedStateFaults := by
  refine ⟨fun i s r => ?_, fun s => ⟨s.doReset, exec_reset s, (doReset_blockInv s).legal⟩, fun s hs => hs.legal⟩
  rw [exec_eq_fault_iff, reservedState_eq_true_iff]

/-- Settles O43: each of the three operations that run in sleep writes one thing, and MS_TICK alone writes the time. -/
theorem sleepKeepsRegisters : Obligations.SleepKeepsRegisters := by
  intro i s t hs hc hwake hreset e
  obtain ⟨rfl, rfl⟩ | ⟨b, c, rfl, rfl⟩ | ⟨rfl, rfl⟩ := hs.exec_in_sleep hc hwake hreset e
  · exact ⟨rfl, fun hi => absurd rfl hi⟩
  · exact ⟨rfl, fun _ => rfl⟩
  · exact ⟨rfl, fun _ => rfl⟩

/-- Settles O42: what runs in sleep beside WAKE and RESET keeps `ctrl_state`; what enters sleep is a phase B that found the idle condition, and the invariants say the rest of the state it leaves. -/
theorem sleepEntryAndExit : Obligations.SleepEntryAndExit := by
  intro i s t hs e
  refine ⟨fun hc hleft => ?_, fun hns hc => ?_⟩
  · by_contra! hi
    obtain ⟨hwake, hreset⟩ := hi
    obtain ⟨hkeeps, -⟩ := sleepKeepsRegisters i s t hs hc hwake hreset e
    rw [hkeeps] at hleft
    exact hleft hc
  · have ht : t.BlockInv := hs.perform (by decide) ((exec_eq i s).symm.trans e)
    obtain ⟨⟨hbtn, hchg, hidle⟩, hts⟩ := exec_enters_sleep e hns hc
    obtain ⟨hbusy, hpin, hadc, hled⟩ := ht.asleepQuiet hc
    exact ⟨hbtn, hchg, hidle, hts, hadc, hled, by simp [ht.btnArmed, hc], by simp [ht.chgArmed, hc], hbusy,
      ht.asleepNoPermit hc, by simp [State.sleepO, hc], hpin⟩

/-- Settles O48: SLEEP_ENTER, by itself or as a phase B's way, powers down, WAKE powers up, and no other effect writes the four. -/
theorem armingWriters : Obligations.ArmingWriters := by
  intro i s t hi h
  cases exec_effect hi h with
  | wake => exact .inr (.inr ⟨rfl, rfl, rfl, rfl, rfl⟩)
  | sleepEnter => exact .inr (.inl ⟨rfl, rfl, rfl, rfl, rfl⟩)
  | tickFinishes | burstEnds | tickB => exact (tickB_power _).imp_right .inl
  | _ => exact .inl ⟨rfl, rfl, rfl, rfl⟩

end Sys2Proof.Proofs

/-! SUPPORT. The block between RESET and its first TICK (70_reset_and_hazards.md R210, R211), when a TICK starts a burst or sleeps, and the wake request of a sleeping block (R216). -/

namespace Sys2Proof.Machine

open Sys2Proof.Config (Params params)

variable {p : Params} {s : State p}

/-! A TICK's burst and a TICK's sleep. -/

/-- Without a heartbeat a TICK starts a burst exactly if the permit is there (R153, R154). -/
theorem tick_txBusy (hh : ¬ s.HeartbeatHolds) (hb : s.txBusy = false) : s.tick.txBusy = s.txAllowed := by
  cases hp : s.txAllowed with
  | true =>
    rw [tick_of_permit (.inr hp)]
    rfl
  | false =>
    obtain ⟨-, -, -, hbusy, -⟩ := tickB_keeps s.takeSnapshot
    rw [tick_of_no_permit hh hp, hbusy]
    exact hb

/-- A TICK of an awake block sleeps only where the idle time has elapsed (R157): where it starts a burst it keeps `ctrl_state`. -/
theorem idle_elapsed_of_tick_sleeping (ha : s.IsAwake) (h : s.tick.ctrlState = .sleeping) :
    p.idleMs ≤ (s.nowMs - s.idleTs).toNat := by
  by_cases hp : s.HeartbeatHolds ∨ s.txAllowed = true
  · rw [tick_of_permit hp] at h
    exact absurd h ha.ne_sleeping
  · obtain ⟨hh, hp⟩ := not_or.1 hp
    rw [tick_of_no_permit hh (Bool.eq_false_of_not_eq_true hp)] at h
    obtain ⟨⟨-, -, hidle⟩, hts⟩ := tickB_sleeping h
    obtain ⟨-, -, -, -, -, -, hnow, -⟩ := tickB_keeps s.takeSnapshot
    rw [hts, hnow] at hidle
    exact hidle

/-! After RESET (R210, R211). -/

/-- The state `k` milliseconds after RESET (R210, R150). -/
def State.afterReset (s : State p) (k : Nat) : State p := { s.doReset with nowMs := BitVec.ofNat _ k }

theorem doReset_nowMs (s : State p) : s.doReset.nowMs = 0#p.tw := rfl

theorem execAll_waitMs_doReset (k : Nat) (s : State) : execAll (waitMs k) s.doReset = .next (s.afterReset k) := by
  rw [execAll_waitMs k (doReset_blockInv s).legal, State.afterReset, doReset_nowMs, BitVec.zero_add]

/-- Since time 0, where RESET puts both timestamps, no more has elapsed than there were MS_TICKs. -/
theorem toNat_ofNat_sub_zero_le (w k : Nat) : (BitVec.ofNat w k - 0#w).toNat ≤ k := by
  rw [BitVec.sub_zero, BitVec.toNat_ofNat]
  exact Nat.mod_le _ _

/-- Within the cooldown after RESET no heartbeat is due, whatever the pins (R153, R211). -/
theorem afterReset_no_heartbeat {k : Nat} (hk : k < p.cooldownMs) : ¬ (s.afterReset k).HeartbeatHolds :=
  fun ⟨_, helapsed⟩ => Nat.not_le_of_lt hk (helapsed.trans (toNat_ofNat_sub_zero_le _ k))

/-- Within the idle time after RESET a TICK does not sleep (R157, R211). -/
theorem afterReset_tick_awake {k : Nat} (hk : k < p.idleMs) : (s.afterReset k).tick.ctrlState ≠ .sleeping :=
  fun h => Nat.not_le_of_lt hk
    ((idle_elapsed_of_tick_sleeping (.inl rfl) h).trans (toNat_ofNat_sub_zero_le _ k))

/-! The wake request of a sleeping block (R183, R216). -/

/-- The invariants keep both sources armed in sleep, so a LOW pin requests, whenever it went LOW. -/
theorem State.BlockInv.wakeRequested (h : s.BlockInv) (hc : s.ctrlState = .sleeping)
    (hpin : s.buttonN = false ∨ s.chargerN = false) : s.WakeRequested :=
  hpin.imp (fun hbtn => ⟨by simp [h.btnArmed, hc], hbtn⟩) fun hchg => ⟨by simp [h.chgArmed, hc], hchg⟩

/-! The millisecond ticks of a burst (R221). -/

theorem micros_burstT_params : micros params (burstT params) = 447692 := rfl

/-- A burst that starts less than 308 microseconds after an MS_TICK ends before its 448th millisecond does. -/
theorem msTicksWithin_burst {phase : Nat} (h : phase < 1000) :
    msTicksWithin phase (micros params (burstT params)) = if phase < 308 then 447 else 448 := by
  rw [micros_burstT_params, msTicksWithin]
  split <;> omega

end Sys2Proof.Machine

/-! PROOFS. The statements of 70_reset_and_hazards.md: no wake is lost at sleep entry, RESET and the first TICK behind it, and the millisecond ticks of a burst. -/

namespace Sys2Proof.Proofs

open Sys2Proof.Machine

/-- Settles O44: the state that sleeps meets the invariants, so the pin's source is armed and WAKE is enabled. -/
theorem noLostWake : Obligations.NoLostWake := by
  intro i s t hs e _ hc hpin
  have ht : t.BlockInv := hs.perform (by decide) ((exec_eq i s).symm.trans e)
  exact ⟨t.takeWake, exec_next ht.legal (wakeEnabled_iff.2 ⟨hc, ht.wakeRequested hc hpin⟩) rfl, rfl, rfl⟩

/-- Settles O51: RESET puts both timestamps at 0, so below COOLDOWN_MS the permit alone decides on a burst, and below IDLE_MS no phase B sleeps. -/
theorem firstTickAfterReset : Obligations.FirstTickAfterReset := by
  intro s t h
  rw [exec_reset] at h
  cases h
  have htick (k : Nat) : exec .tick (s.afterReset k) = .next (s.afterReset k).tick :=
    exec_tick_of_awake (.inl rfl) rfl
  refine ⟨fun k hk => ⟨_, _, execAll_waitMs_doReset k s, htick k, ?_⟩,
    fun k hk => ⟨_, _, execAll_waitMs_doReset k s, htick k, ?_⟩⟩
  · exact tick_txBusy (afterReset_no_heartbeat hk) rfl
  · exact decide_eq_false (afterReset_tick_awake hk)

/-- Settles O16: the phase decides, with 308 microseconds as the bound; phases 0 and 308 attain both counts. -/
theorem msTicksInBurst : Obligations.MsTicksInBurst := by
  refine ⟨fun phase h => ?_, ⟨0, by decide, msTicksWithin_burst (by decide)⟩, 308, by decide,
    msTicksWithin_burst (by decide)⟩
  rw [msTicksWithin_burst h]
  exact ite_eq_or_eq _ _ _

/-- Settles O50: RESET answers the record of its writes, field by field; without a burst the pin is LOW. -/
theorem resetResult : Obligations.ResetResult := fun s =>
  ⟨s.doReset, exec_reset s, rfl, rfl, rfl, rfl, rfl, rfl, rfl, rfl, rfl, rfl, rfl, rfl, rfl, rfl, rfl, rfl,
    txO_of_not_busy rfl, rfl, rfl, rfl, rfl⟩

end Sys2Proof.Proofs
